-- ==== Sys2Proof/Word.lean ====
section
/-! DEFINITION. The machine's words and bytes (spec/00_scope.md R13, spec/40_numerics.md R140).
Signed registers (`i16`, `i32`) are the two's-complement patterns of the same width, read with `BitVec.toInt`. -/

namespace Sys2Proof

/-- One byte; a `u8` register (R13). -/
abbrev Byte := BitVec 8

/-- A 16-bit register: `u16` as it stands, `i16` read with `toInt` (R13, R140). -/
abbrev Half := BitVec 16

/-- A 32-bit integer register, `i32` read with `toInt` (R13, R140). -/
abbrev Word := BitVec 32

/-- A 32-bit pattern read as IEEE 754 binary32 (R13, R146). -/
abbrev F32 := BitVec 32

end Sys2Proof
end

