-- ==== Sys2Proof/Config.lean ====
section
/-! DEFINITION. What an implementation fixes: the parameters of spec/00_scope.md R9 to R12 with their legal
ranges and their defaults. The spec leaves no result value open, so this file holds no opaque free value
(notes/assumptions/11.md). A machine carries its parameters as the constant field `State.params`, so that
every statement about a state is a statement about every choice of the parameters (notes/assumptions/2.md). -/

namespace Sys2Proof

/-- The settings store `nv`: nine slots, 18 bytes (spec/10_state.md R50, spec/44_commands_settings.md R262).
The order of the bytes inside a 4-byte slot is left to the store (R262), so a slot is one 32-bit pattern. -/
structure NvStore where
  mask        : Byte
  m1Control   : Byte
  m2Control   : Byte
  rampingRate : Byte
  minPower    : Byte
  busAddress  : Byte
  kP          : F32
  kI          : F32
  kD          : F32
  deriving DecidableEq, Repr

/-- Every byte `0xFF`: the default content of a blank store (R12). -/
def NvStore.blank : NvStore where
  mask := 0xFF
  m1Control := 0xFF
  m2Control := 0xFF
  rampingRate := 0xFF
  minPower := 0xFF
  busAddress := 0xFF
  kP := 0xFFFFFFFF
  kI := 0xFFFFFFFF
  kD := 0xFFFFFFFF

/-- The parameters of R9 (`TICKS_PER_REV`, `REFRESH_HZ`, `RATE_SCALE`), R10 (`DEF_…`), R11 (`ADC_BITS`) and
R12 (`NV_INIT`). -/
structure Params where
  ticksPerRev    : Nat
  refreshHz      : Nat
  rateScale      : F32
  defKP          : F32
  defKI          : F32
  defKD          : F32
  defRampingRate : Byte
  defMinPower    : Byte
  defBusAddress  : BitVec 7
  defControl     : Byte
  adcBits        : Nat
  nvInit         : NvStore
  deriving DecidableEq, Repr

/-- The legal ranges of R9 and R11. `RATE_SCALE` is finite when its exponent field is not all ones (R146). -/
abbrev Params.Legal (p : Params) : Prop :=
  1 ≤ p.ticksPerRev ∧ p.ticksPerRev ≤ 16777216 ∧
  1 ≤ p.refreshHz ∧ p.refreshHz ≤ 16777216 ∧
  p.rateScale.extractLsb' 23 8 ≠ 0xFF ∧
  1 ≤ p.adcBits ∧ p.adcBits ≤ 16

/-- The default column of R9, R10, R11 and R12. -/
def Params.default : Params where
  ticksPerRev := 600
  refreshHz := 100
  rateScale := 0x3F800000
  defKP := 0x3F000000
  defKI := 0x3CCCCCCD
  defKD := 0x3DCCCCCD
  defRampingRate := 5
  defMinPower := 20
  defBusAddress := 0x10
  defControl := 0x00
  adcBits := 10
  nvInit := NvStore.blank

end Sys2Proof
end

