-- ==== Sys2Proof/Syntax.lean ====
section
/-! DEFINITION. The operations of the hardware: one constructor for each row of spec/opcode_table.json
(spec/30_encoding.md R100, R110, R121). -/

namespace Sys2Proof

/-- The two motor channels (R3). -/
inductive MotorId where
  | m1
  | m2
  deriving DecidableEq, Repr

/-- The other channel (the current sampler's toggle, R355). -/
def MotorId.other : MotorId → MotorId
  | .m1 => .m2
  | .m2 => .m1

/-- The `class` column of the opcode table (R121). -/
inductive OpClass where
  | write
  | read
  | event
  deriving DecidableEq, Repr

/-- The operations (R100). `W1` payloads are a byte, `W2` payloads a two's-complement 16-bit pattern, `WF`
payloads a binary32 pattern (R102, R106). A conversion result is an unsigned integer (R355), so it is a `Nat`
here and `Instr.WellFormed` bounds it. -/
inductive Instr where
  | wrM1Control (v : Byte)
  | wrM1Power (v : Byte)
  | wrM1TargetRate (v : Half)
  | wrM2Control (v : Byte)
  | wrM2Power (v : Byte)
  | wrM2TargetRate (v : Half)
  | wrPidKp (f : F32)
  | wrPidKi (f : F32)
  | wrPidKd (f : F32)
  | wrRampingRate (v : Byte)
  | wrMinPower (v : Byte)
  | wrBusAddress (v : Byte)
  | wrSettingsSave (v : Byte)
  | wrSettingsLoad
  | wrSoftReset
  | rdM1Control
  | rdM1Power
  | rdM1TargetRate
  | rdM1CurrentPower
  | rdM1ScaledPower
  | rdM1CurrentRate
  | rdM1Encoder
  | rdM1Current
  | rdM1PidP
  | rdM1PidI
  | rdM1PidD
  | rdM2Control
  | rdM2Power
  | rdM2TargetRate
  | rdM2CurrentPower
  | rdM2ScaledPower
  | rdM2CurrentRate
  | rdM2Encoder
  | rdM2Current
  | rdM2PidP
  | rdM2PidI
  | rdM2PidD
  | rdPidKp
  | rdPidKi
  | rdPidKd
  | rdRampingRate
  | rdMinPower
  | rdBusAddress
  | por
  | wdt
  | tick
  | enc (m : MotorId) (b : Bool)
  | adc (v : Nat)
  | startW
  | rx (b : Byte)
  | endW
  | req
  deriving DecidableEq, Repr

/-- The row's `class` (R121). -/
def Instr.opClass : Instr → OpClass
  | .wrM1Control _ => .write
  | .wrM1Power _ => .write
  | .wrM1TargetRate _ => .write
  | .wrM2Control _ => .write
  | .wrM2Power _ => .write
  | .wrM2TargetRate _ => .write
  | .wrPidKp _ => .write
  | .wrPidKi _ => .write
  | .wrPidKd _ => .write
  | .wrRampingRate _ => .write
  | .wrMinPower _ => .write
  | .wrBusAddress _ => .write
  | .wrSettingsSave _ => .write
  | .wrSettingsLoad => .write
  | .wrSoftReset => .write
  | .rdM1Control => .read
  | .rdM1Power => .read
  | .rdM1TargetRate => .read
  | .rdM1CurrentPower => .read
  | .rdM1ScaledPower => .read
  | .rdM1CurrentRate => .read
  | .rdM1Encoder => .read
  | .rdM1Current => .read
  | .rdM1PidP => .read
  | .rdM1PidI => .read
  | .rdM1PidD => .read
  | .rdM2Control => .read
  | .rdM2Power => .read
  | .rdM2TargetRate => .read
  | .rdM2CurrentPower => .read
  | .rdM2ScaledPower => .read
  | .rdM2CurrentRate => .read
  | .rdM2Encoder => .read
  | .rdM2Current => .read
  | .rdM2PidP => .read
  | .rdM2PidI => .read
  | .rdM2PidD => .read
  | .rdPidKp => .read
  | .rdPidKi => .read
  | .rdPidKd => .read
  | .rdRampingRate => .read
  | .rdMinPower => .read
  | .rdBusAddress => .read
  | .por => .event
  | .wdt => .event
  | .tick => .event
  | .enc _ _ => .event
  | .adc _ => .event
  | .startW => .event
  | .rx _ => .event
  | .endW => .event
  | .req => .event

/-- The row's `match` byte: the register address for the classes `WR` and `RD` (R110), the event code for
the class `EVENT` (R121). -/
def Instr.matchByte : Instr → Byte
  | .wrM1Control _ => 0x00
  | .wrM1Power _ => 0x01
  | .wrM1TargetRate _ => 0x02
  | .wrM2Control _ => 0x10
  | .wrM2Power _ => 0x11
  | .wrM2TargetRate _ => 0x12
  | .wrPidKp _ => 0x20
  | .wrPidKi _ => 0x21
  | .wrPidKd _ => 0x22
  | .wrRampingRate _ => 0x23
  | .wrMinPower _ => 0x24
  | .wrBusAddress _ => 0x30
  | .wrSettingsSave _ => 0x31
  | .wrSettingsLoad => 0x32
  | .wrSoftReset => 0x33
  | .rdM1Control => 0x00
  | .rdM1Power => 0x01
  | .rdM1TargetRate => 0x02
  | .rdM1CurrentPower => 0x03
  | .rdM1ScaledPower => 0x04
  | .rdM1CurrentRate => 0x05
  | .rdM1Encoder => 0x06
  | .rdM1Current => 0x07
  | .rdM1PidP => 0x08
  | .rdM1PidI => 0x09
  | .rdM1PidD => 0x0A
  | .rdM2Control => 0x10
  | .rdM2Power => 0x11
  | .rdM2TargetRate => 0x12
  | .rdM2CurrentPower => 0x13
  | .rdM2ScaledPower => 0x14
  | .rdM2CurrentRate => 0x15
  | .rdM2Encoder => 0x16
  | .rdM2Current => 0x17
  | .rdM2PidP => 0x18
  | .rdM2PidI => 0x19
  | .rdM2PidD => 0x1A
  | .rdPidKp => 0x20
  | .rdPidKi => 0x21
  | .rdPidKd => 0x22
  | .rdRampingRate => 0x23
  | .rdMinPower => 0x24
  | .rdBusAddress => 0x30
  | .por => 0x00
  | .wdt => 0x01
  | .tick => 0x02
  | .enc _ _ => 0x03
  | .adc _ => 0x04
  | .startW => 0x05
  | .rx _ => 0x06
  | .endW => 0x07
  | .req => 0x08

end Sys2Proof
end

