-- ==== Sys2Proof/WellFormed.lean ====
section
/-! DEFINITION. Which terms of `Instr` are operations of the hardware. Register addresses, channel numbers and
payload widths are right by their types; every value of the right width is accepted
(spec/30_encoding.md R118, spec/42_register_writes.md, template paragraph). The one check left is that a
conversion result fits the two operand bytes of its event (R121). -/

namespace Sys2Proof

/-- `ADC` carries two operand bytes (R121); bits above `ADC_BITS` inside them are legal and dropped (R355). -/
def Instr.wellFormed : Instr → Bool
  | .adc v => decide (v < 65536)
  | .wrM1Control _ => true
  | .wrM1Power _ => true
  | .wrM1TargetRate _ => true
  | .wrM2Control _ => true
  | .wrM2Power _ => true
  | .wrM2TargetRate _ => true
  | .wrPidKp _ => true
  | .wrPidKi _ => true
  | .wrPidKd _ => true
  | .wrRampingRate _ => true
  | .wrMinPower _ => true
  | .wrBusAddress _ => true
  | .wrSettingsSave _ => true
  | .wrSettingsLoad => true
  | .wrSoftReset => true
  | .rdM1Control => true
  | .rdM1Power => true
  | .rdM1TargetRate => true
  | .rdM1CurrentPower => true
  | .rdM1ScaledPower => true
  | .rdM1CurrentRate => true
  | .rdM1Encoder => true
  | .rdM1Current => true
  | .rdM1PidP => true
  | .rdM1PidI => true
  | .rdM1PidD => true
  | .rdM2Control => true
  | .rdM2Power => true
  | .rdM2TargetRate => true
  | .rdM2CurrentPower => true
  | .rdM2ScaledPower => true
  | .rdM2CurrentRate => true
  | .rdM2Encoder => true
  | .rdM2Current => true
  | .rdM2PidP => true
  | .rdM2PidI => true
  | .rdM2PidD => true
  | .rdPidKp => true
  | .rdPidKi => true
  | .rdPidKd => true
  | .rdRampingRate => true
  | .rdMinPower => true
  | .rdBusAddress => true
  | .por => true
  | .wdt => true
  | .tick => true
  | .enc _ _ => true
  | .startW => true
  | .rx _ => true
  | .endW => true
  | .req => true

/-- The well-formed operations, as a proposition. -/
abbrev Instr.WellFormed (i : Instr) : Prop :=
  i.wellFormed = true

end Sys2Proof
end

