-- ==== Sys2Proof/Decode.lean ====
section
/-! DEFINITION. The decoder of the input trace, total on any bytes and rejecting by name, and the encoder.
Events stand in the encoding of spec/30_encoding.md R121: one code byte, then the operand bytes. The rows of
the classes `WR` and `RD` match on an address byte in spaces of their own, told apart from the event codes by
the row's `class` (R121): in the trace that class is a tag byte which is no event code, `writeTag` or `readTag`,
before the address byte (notes/assumptions/3.md). -/

namespace Sys2Proof

/-! ### Byte order (R15 `be_N`, `from_be`; R72, R73) -/

/-- `be_2`: most significant byte first. -/
def be2 (v : Half) : List Byte :=
  [v.extractLsb' 8 8, v.extractLsb' 0 8]

/-- `be_4`: most significant byte first. -/
def be4 (v : Word) : List Byte :=
  [v.extractLsb' 24 8, v.extractLsb' 16 8, v.extractLsb' 8 8, v.extractLsb' 0 8]

/-- `from_be`: the unsigned integer whose big-endian bytes are given. -/
def fromBE (bytes : List Byte) : Nat :=
  bytes.foldl (fun n b => n * 256 + b.toNat) 0

/-! ### Decoding -/

/-- Why a trace encodes no operation. -/
inductive DecodeError where
  /-- There is no byte to decode. -/
  | emptyTrace
  /-- The byte is no event code of R121 and no class tag. -/
  | unknownCode (c : Byte)
  /-- The trace ends inside the operation that begins with this code. -/
  | truncated (c : Byte)
  /-- The operand byte of `ENC` has one of bits 7:2 set; R121 gives it as `0b000000mb`. -/
  | reservedEncBits (operand : Byte)
  /-- No row of class `WR` has this address. -/
  | notWritable (a : Byte)
  /-- No row of class `RD` has this address. -/
  | notReadable (a : Byte)
  deriving DecidableEq, Repr

/-- The tag byte of class `WR` (the letter W). -/
def writeTag : Byte := 0x57

/-- The tag byte of class `RD` (the letter R). -/
def readTag : Byte := 0x52

/-- An operation and the bytes after it, or why there is none. -/
abbrev DecodeResult := Except DecodeError (Instr × List Byte)

/-- A row without operand. -/
def operand0 (i : Instr) (bytes : List Byte) : DecodeResult :=
  .ok (i, bytes)

/-- A row with a one-byte operand (formats `W1`, `EV1`). -/
def operand1 (code : Byte) (f : Byte → Instr) : List Byte → DecodeResult
  | b :: rest => .ok (f b, rest)
  | [] => .error (.truncated code)

/-- A row with a big-endian two-byte operand (formats `W2`, `EV2`). -/
def operand2 (code : Byte) (f : Half → Instr) : List Byte → DecodeResult
  | b0 :: b1 :: rest => .ok (f (BitVec.ofNat 16 (fromBE [b0, b1])), rest)
  | _ => .error (.truncated code)

/-- A row with a big-endian four-byte operand (format `WF`). -/
def operand4 (code : Byte) (f : F32 → Instr) : List Byte → DecodeResult
  | b0 :: b1 :: b2 :: b3 :: rest => .ok (f (BitVec.ofNat 32 (fromBE [b0, b1, b2, b3])), rest)
  | _ => .error (.truncated code)

/-- The motor number of an `ENC` operand: bit 1, 0 for motor 1 (R121). -/
def motorOfBit (b : Bool) : MotorId :=
  if b then .m2 else .m1

/-- The operand byte `0b000000mb` of `ENC` (R121). -/
def decodeEnc : List Byte → DecodeResult
  | b :: rest =>
    if b.extractLsb' 2 6 = 0 then .ok (.enc (motorOfBit (b.getLsbD 1)) (b.getLsbD 0), rest)
    else .error (.reservedEncBits b)
  | [] => .error (.truncated 0x03)

/-- The address byte and the payload of a row of class `WR` (R102, R110). -/
def decodeWrite : List Byte → DecodeResult
  | [] => .error (.truncated writeTag)
  | a :: rest =>
    match a.toNat with
    | 0x00 => operand1 writeTag .wrM1Control rest
    | 0x01 => operand1 writeTag .wrM1Power rest
    | 0x02 => operand2 writeTag .wrM1TargetRate rest
    | 0x10 => operand1 writeTag .wrM2Control rest
    | 0x11 => operand1 writeTag .wrM2Power rest
    | 0x12 => operand2 writeTag .wrM2TargetRate rest
    | 0x20 => operand4 writeTag .wrPidKp rest
    | 0x21 => operand4 writeTag .wrPidKi rest
    | 0x22 => operand4 writeTag .wrPidKd rest
    | 0x23 => operand1 writeTag .wrRampingRate rest
    | 0x24 => operand1 writeTag .wrMinPower rest
    | 0x30 => operand1 writeTag .wrBusAddress rest
    | 0x31 => operand1 writeTag .wrSettingsSave rest
    | 0x32 => operand0 .wrSettingsLoad rest
    | 0x33 => operand0 .wrSoftReset rest
    | _ => .error (.notWritable a)

/-- The address byte of a row of class `RD` (R103, R110). -/
def decodeRead : List Byte → DecodeResult
  | [] => .error (.truncated readTag)
  | a :: rest =>
    match a.toNat with
    | 0x00 => operand0 .rdM1Control rest
    | 0x01 => operand0 .rdM1Power rest
    | 0x02 => operand0 .rdM1TargetRate rest
    | 0x03 => operand0 .rdM1CurrentPower rest
    | 0x04 => operand0 .rdM1ScaledPower rest
    | 0x05 => operand0 .rdM1CurrentRate rest
    | 0x06 => operand0 .rdM1Encoder rest
    | 0x07 => operand0 .rdM1Current rest
    | 0x08 => operand0 .rdM1PidP rest
    | 0x09 => operand0 .rdM1PidI rest
    | 0x0A => operand0 .rdM1PidD rest
    | 0x10 => operand0 .rdM2Control rest
    | 0x11 => operand0 .rdM2Power rest
    | 0x12 => operand0 .rdM2TargetRate rest
    | 0x13 => operand0 .rdM2CurrentPower rest
    | 0x14 => operand0 .rdM2ScaledPower rest
    | 0x15 => operand0 .rdM2CurrentRate rest
    | 0x16 => operand0 .rdM2Encoder rest
    | 0x17 => operand0 .rdM2Current rest
    | 0x18 => operand0 .rdM2PidP rest
    | 0x19 => operand0 .rdM2PidI rest
    | 0x1A => operand0 .rdM2PidD rest
    | 0x20 => operand0 .rdPidKp rest
    | 0x21 => operand0 .rdPidKi rest
    | 0x22 => operand0 .rdPidKd rest
    | 0x23 => operand0 .rdRampingRate rest
    | 0x24 => operand0 .rdMinPower rest
    | 0x30 => operand0 .rdBusAddress rest
    | _ => .error (.notReadable a)

/-- The next operation of a trace (R121). -/
def decode : List Byte → DecodeResult
  | [] => .error .emptyTrace
  | c :: rest =>
    match c.toNat with
    | 0x00 => operand0 .por rest
    | 0x01 => operand0 .wdt rest
    | 0x02 => operand0 .tick rest
    | 0x03 => decodeEnc rest
    | 0x04 => operand2 0x04 (fun v => .adc v.toNat) rest
    | 0x05 => operand0 .startW rest
    | 0x06 => operand1 0x06 .rx rest
    | 0x07 => operand0 .endW rest
    | 0x08 => operand0 .req rest
    | 0x52 => decodeRead rest
    | 0x57 => decodeWrite rest
    | _ => .error (.unknownCode c)

/-! ### Encoding -/

/-- The `m` bit of an `ENC` operand (R121). -/
def motorBit : MotorId → Bool
  | .m1 => false
  | .m2 => true

/-- The operand byte `0b000000mb` of `ENC` (R121). -/
def encOperand (m : MotorId) (b : Bool) : Byte :=
  BitVec.ofNat 8 (2 * (motorBit m).toNat + b.toNat)

/-- The bytes of an operation in the trace (R102, R110, R121). -/
def encode : Instr → List Byte
  | .wrM1Control v => [writeTag, 0x00, v]
  | .wrM1Power v => [writeTag, 0x01, v]
  | .wrM1TargetRate v => writeTag :: 0x02 :: be2 v
  | .wrM2Control v => [writeTag, 0x10, v]
  | .wrM2Power v => [writeTag, 0x11, v]
  | .wrM2TargetRate v => writeTag :: 0x12 :: be2 v
  | .wrPidKp f => writeTag :: 0x20 :: be4 f
  | .wrPidKi f => writeTag :: 0x21 :: be4 f
  | .wrPidKd f => writeTag :: 0x22 :: be4 f
  | .wrRampingRate v => [writeTag, 0x23, v]
  | .wrMinPower v => [writeTag, 0x24, v]
  | .wrBusAddress v => [writeTag, 0x30, v]
  | .wrSettingsSave v => [writeTag, 0x31, v]
  | .wrSettingsLoad => [writeTag, 0x32]
  | .wrSoftReset => [writeTag, 0x33]
  | .rdM1Control => [readTag, 0x00]
  | .rdM1Power => [readTag, 0x01]
  | .rdM1TargetRate => [readTag, 0x02]
  | .rdM1CurrentPower => [readTag, 0x03]
  | .rdM1ScaledPower => [readTag, 0x04]
  | .rdM1CurrentRate => [readTag, 0x05]
  | .rdM1Encoder => [readTag, 0x06]
  | .rdM1Current => [readTag, 0x07]
  | .rdM1PidP => [readTag, 0x08]
  | .rdM1PidI => [readTag, 0x09]
  | .rdM1PidD => [readTag, 0x0A]
  | .rdM2Control => [readTag, 0x10]
  | .rdM2Power => [readTag, 0x11]
  | .rdM2TargetRate => [readTag, 0x12]
  | .rdM2CurrentPower => [readTag, 0x13]
  | .rdM2ScaledPower => [readTag, 0x14]
  | .rdM2CurrentRate => [readTag, 0x15]
  | .rdM2Encoder => [readTag, 0x16]
  | .rdM2Current => [readTag, 0x17]
  | .rdM2PidP => [readTag, 0x18]
  | .rdM2PidI => [readTag, 0x19]
  | .rdM2PidD => [readTag, 0x1A]
  | .rdPidKp => [readTag, 0x20]
  | .rdPidKi => [readTag, 0x21]
  | .rdPidKd => [readTag, 0x22]
  | .rdRampingRate => [readTag, 0x23]
  | .rdMinPower => [readTag, 0x24]
  | .rdBusAddress => [readTag, 0x30]
  | .por => [0x00]
  | .wdt => [0x01]
  | .tick => [0x02]
  | .enc m b => [0x03, encOperand m b]
  | .adc v => 0x04 :: be2 (BitVec.ofNat 16 v)
  | .startW => [0x05]
  | .rx b => [0x06, b]
  | .endW => [0x07]
  | .req => [0x08]

/-! ### The opcode table's own numbering of a row's bits -/

/-- Byte `k` of a row's bits, bit 0 being the least significant bit of the first byte. -/
def tableByte (w k : Nat) : Byte :=
  BitVec.ofNat 8 (w / 2 ^ (8 * k))

/-- The bits of a row as the decoder meets them, the operand bytes above `nbits` being 0. The table numbers
three spaces, told apart by the row's class, which its bits do not hold: a first byte that is an event code
is read as the event, any other as the address of a `WR` row where there is one, else of an `RD` row
(notes/assumptions/3.md). -/
def tableBytes (nbits w : Nat) : List Byte :=
  let v := w % 2 ^ nbits
  let b := tableByte v 0
  let operands := [tableByte v 1, tableByte v 2, tableByte v 3, tableByte v 4]
  if b.toNat ≤ 0x08 then b :: operands
  else match decodeWrite (b :: operands) with
    | .ok _ => writeTag :: b :: operands
    | .error _ => readTag :: b :: operands

/-- The operation the decoder reads from the bits `w` of a row that the table gives `nbits` bits. -/
def decodeTableWord (nbits w : Nat) : Option Instr :=
  match decode (tableBytes nbits w) with
  | .ok (i, _) => some i
  | .error _ => none

end Sys2Proof
end

