-- ==== Sys2Proof/Machine/State.lean ====
section
/-! DEFINITION. The state of the machine (spec/10_state.md R20 to R56), the reasons a step can stop, and the
machine right after reset (spec/70_reset_and_hazards.md R412). -/

namespace Sys2Proof.Machine

/-- The drive mode of a power stage (R34, R330). -/
inductive OutMode where
  /-- Both terminals released. -/
  | float
  /-- Terminals shorted together. -/
  | brake
  /-- Pulse-width modulation at `outDuty`. -/
  | pwm
  /-- Continuous full drive. -/
  | full
  deriving DecidableEq, Repr

/-- The phase of the write transaction in progress (R42). -/
inductive RxPhase where
  | idle
  | addr
  | data
  | discard
  deriving DecidableEq, Repr

/-- The run state (R49). -/
inductive RunState where
  | running
  | halted
  deriving DecidableEq, Repr

/-- A motor's control mode, decoded from its control byte (R291). -/
inductive Mode where
  | direct
  | ramp
  | rate
  deriving DecidableEq, Repr

/-- MotorState (R21 to R33) and the output record (R34 to R36) of one motor. -/
structure MotorRegs where
  /-- The control-flags byte (R21, R22). -/
  control      : Byte
  /-- The master's open-loop request (R23). -/
  setPower     : Byte
  /-- The commanded drive (R24). -/
  currentPower : Byte
  /-- `setPower` rescaled (R25). -/
  scaledPower  : Byte
  /-- `i16` (R26). -/
  targetRate   : Half
  /-- `i16` (R27). -/
  currentRate  : Half
  /-- `i32` (R28). -/
  encoderValue : Word
  /-- `i32` (R29). -/
  oldEnc       : Word
  /-- `u16` (R30). -/
  currentDraw  : Half
  /-- The proportional term (R31). -/
  pidP         : F32
  /-- The integral term (R32). -/
  pidI         : F32
  /-- The derivative term (R33). -/
  pidD         : F32
  /-- The drive mode of the output (R34). -/
  outMode      : OutMode
  /-- The duty register of the output (R35). -/
  outDuty      : Byte
  /-- The polarity of the output, `false` forward (R36). -/
  outPol       : Bool
  deriving DecidableEq, Repr

/-- The global tunables (R37 to R40). `busAddress` is 7 bits held as a byte with bit 7 zero (R40). -/
structure Tunables where
  kP          : F32
  kI          : F32
  kD          : F32
  rampingRate : Byte
  minPower    : Byte
  busAddress  : Byte
  deriving DecidableEq, Repr

/-- The register-protocol state (R41 to R47). `stage` holds the staged bytes in arrival order; `stage_cnt`
is its length (notes/assumptions/9.md). -/
structure BusRegs where
  /-- The active address (R41). -/
  activeAddr   : Byte
  /-- The phase of the write transaction (R42). -/
  rxPhase      : RxPhase
  /-- The staging buffer (R43). -/
  stage        : List Byte
  /-- A field has just been committed (R44). -/
  advPending   : Bool
  /-- The updated-fields bitmap (R46). -/
  updated      : BitVec 16
  /-- The payload of the last SETTINGS_SAVE write (R47). -/
  saveSelector : Byte
  deriving DecidableEq, Repr

/-- The 4-byte block a `REQ` answers, in the order the bytes are sent (R103, R185). -/
structure ReadBlock where
  d0 : Byte
  d1 : Byte
  d2 : Byte
  d3 : Byte
  deriving DecidableEq, Repr

/-- The whole state: the seven groups of R20, then three fields of the model's own (`params`, `input`,
`readBlock`: notes/assumptions/1.md, 2.md, 6.md). -/
structure State where
  /-- Motor 1 (R20 groups 1 and 2). -/
  m1        : MotorRegs
  /-- Motor 2 (R20 groups 1 and 2). -/
  m2        : MotorRegs
  /-- The tunables (R20 group 3). -/
  tun       : Tunables
  /-- The protocol state (R20 group 4). -/
  bus       : BusRegs
  /-- The input of the conversion in progress, motor 1's where the spec writes 0 (R48). -/
  adcChan   : MotorId
  /-- The run state (R49). -/
  run       : RunState
  /-- The settings store (R50). -/
  nv        : NvStore
  /-- The parameters of R9 to R12; no operation writes them. -/
  params    : Params
  /-- The events still to be delivered, in the encoding of R121. -/
  input     : List Byte
  /-- What the latest `REQ` answered; `none` is no data. -/
  readBlock : Option ReadBlock
  deriving DecidableEq, Repr

/-- Why the machine stops. The hardware itself has no trap, fault or stop (R118, R380); both reasons arise only
in states that no run reaches (R53 d and e), where the spec defines no effect. -/
inductive Fault where
  /-- Raised by `REQ` with an unmapped active address, where `MemRead` "is not defined" (R76). Safe: the
  machine stops where the spec gives nothing. -/
  | readUnmapped (addr : Byte)
  /-- Raised by `RX` when a field is complete for an active address that has no decode routine, for which
  `MemWrite` "is never invoked" (R77), or that is unmapped and so has no width (R71). Safe: as above. -/
  | noDecodeRoutine (addr : Byte)
  deriving DecidableEq, Repr

/-- Why an operation is given no meaning. -/
inductive Refusal where
  /-- Raised by an arm of `exec` whose operation has no meaning yet. No arm of this model raises it. Safe. -/
  | notModelled (mnemonic : String)
  /-- Raised by `step` when the input bytes encode no operation, which is no event of the hardware but an
  error of whoever wrote the trace (R121). Safe. -/
  | malformedTrace (error : DecodeError)
  deriving DecidableEq, Repr

/-- The numeric codes of R114. -/
def OutMode.code : OutMode → Nat
  | .float => 0
  | .brake => 1
  | .pwm => 2
  | .full => 3

/-- The numeric codes of R114. -/
def RxPhase.code : RxPhase → Nat
  | .idle => 0
  | .addr => 1
  | .data => 2
  | .discard => 3

/-- The numeric codes of R114. -/
def RunState.code : RunState → Nat
  | .running => 0
  | .halted => 1

/-- The numeric codes of R114. -/
def Mode.code : Mode → Nat
  | .direct => 0
  | .ramp => 1
  | .rate => 2

/-- A motor with every register at the value of R55. -/
def MotorRegs.cleared : MotorRegs where
  control := 0x00
  setPower := 0
  currentPower := 0
  scaledPower := 0
  targetRate := 0
  currentRate := 0
  encoderValue := 0
  oldEnc := 0
  currentDraw := 0
  pidP := 0x00000000
  pidI := 0x00000000
  pidD := 0x00000000
  outMode := .float
  outDuty := 0
  outPol := false

/-- The protocol registers at the values of R55. -/
def BusRegs.cleared : BusRegs where
  activeAddr := 0x00
  rxPhase := .idle
  stage := []
  advPending := false
  updated := 0x0000
  saveSelector := 0x00

/-- The machine right after reset with a never-saved store and the default parameters, every register as R412
lists it; no event delivered yet and no read answered yet. -/
def State.reset : State where
  m1 := MotorRegs.cleared
  m2 := MotorRegs.cleared
  tun :=
    { kP := 0x3F000000
      kI := 0x3CCCCCCD
      kD := 0x3DCCCCCD
      rampingRate := 5
      minPower := 20
      busAddress := 0x10 }
  bus := BusRegs.cleared
  adcChan := .m1
  run := .running
  nv := NvStore.blank
  params := Params.default
  input := []
  readBlock := none

/-- The registers of one motor: `x[m]` of R14. -/
def State.motor (s : State) : MotorId → MotorRegs
  | .m1 => s.m1
  | .m2 => s.m2

/-- `x[m] <- v` of R14, for all registers of one motor at once. -/
def State.setMotor (s : State) (i : MotorId) (m : MotorRegs) : State :=
  match i with
  | .m1 => { s with m1 := m }
  | .m2 => { s with m2 := m }

end Sys2Proof.Machine
end

