-- ==== Sys2Proof/Machine/Numerics.lean ====
section
/-! DEFINITION. The arithmetic of spec/40_numerics.md. A finite binary32 value is a whole number of units of
2^-149, so every exact result below is a rational of integers and is rounded once (R147). -/

namespace Sys2Proof.Machine

/-! ### Binary32 patterns (R146) -/

/-- Bit 31. -/
def signOf (a : F32) : Bool :=
  a.getLsbD 31

/-- Bits 30:23. -/
def expOf (a : F32) : Nat :=
  (a.extractLsb' 23 8).toNat

/-- Bits 22:0. -/
def fracOf (a : F32) : Nat :=
  (a.extractLsb' 0 23).toNat

/-- Exponent 255 with a non-zero fraction (R146). -/
def isNaN (a : F32) : Bool :=
  expOf a == 255 && fracOf a != 0

/-- Exponent 255 with fraction 0 (R146). -/
def isInf (a : F32) : Bool :=
  expOf a == 255 && fracOf a == 0

/-- The magnitude of a finite value, in units of 2^-149 (R146). -/
def magOf (a : F32) : Nat :=
  if expOf a = 0 then fracOf a else (2 ^ 23 + fracOf a) * 2 ^ (expOf a - 1)

/-- A finite value, in units of 2^-149 (R146). -/
def valueOf (a : F32) : Int :=
  if signOf a then -(magOf a : Int) else (magOf a : Int)

/-- A finite value that is +0.0 or -0.0. -/
def isZero (a : F32) : Bool :=
  expOf a == 0 && fracOf a == 0

/-- The canonical quiet NaN (R147). -/
def canonicalNaN : F32 :=
  0x7FC00000

/-- Infinity of a sign (R146). -/
def infinity (s : Bool) : F32 :=
  if s then 0xFF800000 else 0x7F800000

/-- Zero of a sign (R146). -/
def zero (s : Bool) : F32 :=
  if s then 0x80000000 else 0x00000000

/-- 60.0 (R151). -/
def sixty : F32 :=
  0x42700000

/-! ### Rounding (R147: to nearest, ties to even, overflow to infinity, subnormals kept) -/

/-- `n / d` to the nearest integer, a tie to the even one. -/
def divNearestEven (n d : Nat) : Nat :=
  if 2 * (n % d) < d then n / d
  else if d < 2 * (n % d) then n / d + 1
  else if n / d % 2 = 0 then n / d else n / d + 1

/-- How many binary places the value `n / d` (in units of 2^-149) has above the 24 that a significand holds. -/
def excessBits (n d : Nat) : Nat :=
  Nat.log2 (n / d) - 23

/-- The low 31 bits of the pattern of the magnitude `n / d` in units of 2^-149. A significand that rounds up to
2^24 carries into the exponent field by the same sum, and one past the largest finite value gives infinity. -/
def roundMag (n d : Nat) : Nat :=
  let q := excessBits n d
  min (divNearestEven n (d * 2 ^ q) + q * 2 ^ 23) 0x7F800000

/-- The pattern with sign `s` and the low 31 bits `p`. -/
def withSign (s : Bool) (p : Nat) : F32 :=
  BitVec.ofNat 32 (p + if s then 2 ^ 31 else 0)

/-- A rational `n / d` of units of 2^-149 with sign `s`, rounded. -/
def roundTo (s : Bool) (n d : Nat) : F32 :=
  withSign s (roundMag n d)

/-! ### The operations of R147 and R148 -/

/-- The pattern with the sign bit flipped. -/
def fneg (a : F32) : F32 :=
  a ^^^ 0x80000000

/-- The sum of two finite values: an exact zero sum of operands of opposite sign is +0.0 (R147), of the same
sign a zero of that sign (notes/assumptions/16.md). -/
def faddFinite (a b : F32) : F32 :=
  let v := valueOf a + valueOf b
  if v = 0 then zero (signOf a && signOf b)
  else roundTo (decide (v < 0)) v.natAbs 1

/-- `fadd` (R147). -/
def fadd (a b : F32) : F32 :=
  if isNaN a || isNaN b then canonicalNaN
  else if isInf a then
    if isInf b && signOf a != signOf b then canonicalNaN else a
  else if isInf b then b
  else faddFinite a b

/-- `fsub` (R147): the sum with the second operand negated. -/
def fsub (a b : F32) : F32 :=
  fadd a (fneg b)

/-- `fmul` (R147). A product of two values is a whole number of units of 2^-298. -/
def fmul (a b : F32) : F32 :=
  let s := signOf a != signOf b
  if isNaN a || isNaN b then canonicalNaN
  else if isInf a || isInf b then
    if isZero a || isZero b then canonicalNaN else infinity s
  else roundTo s (magOf a * magOf b) (2 ^ 149)

/-- `fdiv` (R147). -/
def fdiv (a b : F32) : F32 :=
  let s := signOf a != signOf b
  if isNaN a || isNaN b then canonicalNaN
  else if isInf a then
    if isInf b then canonicalNaN else infinity s
  else if isInf b then zero s
  else if isZero b then
    if isZero a then canonicalNaN else infinity s
  else roundTo s (magOf a * 2 ^ 149) (magOf b)

/-- `fabs` (R148): bit 31 cleared, also for NaN patterns. -/
def fabs (a : F32) : F32 :=
  a &&& 0x7FFFFFFF

/-- `flt` (R148). An infinity lies outside every finite value. -/
def flt (a b : F32) : Bool :=
  if isNaN a || isNaN b then false
  else if isInf a then
    signOf a && !(isInf b && signOf b)
  else if isInf b then !signOf b
  else decide (valueOf a < valueOf b)

/-! ### Conversions (R149, R150) -/

/-- `i2f` (R149). -/
def i2f (n : Int) : F32 :=
  roundTo (decide (n < 0)) (n.natAbs * 2 ^ 149) 1

/-- `sign(x) * floor(|x| + 1/2)` of a finite value: nearest, ties away from zero (R150). -/
def roundAway (a : F32) : Int :=
  let n : Nat := (2 * magOf a + 2 ^ 149) / 2 ^ 150
  if signOf a then -(n : Int) else (n : Int)

/-- `round_sat` (R150). -/
def roundSat (a : F32) (lo hi : Int) : Int :=
  if isNaN a then 0
  else if isInf a then
    if signOf a then lo else hi
  else min (max (roundAway a) lo) hi

/-- `f2u8` (R150). -/
def f2u8 (a : F32) : Byte :=
  BitVec.ofInt 8 (roundSat a 0 255)

/-- `f2i16` (R150). -/
def f2i16 (a : F32) : Half :=
  BitVec.ofInt 16 (roundSat a (-32768) 32767)

/-! ### Integer laws -/

/-- `rescale` with the `min_power` in force (R142, R306). -/
def rescale (minPower p : Byte) : Byte :=
  if p = 0 then 0
  else BitVec.ofNat 8 (minPower.toNat + p.toNat * (255 - minPower.toNat) / 255)

/-- `rate_of` (R296): four operations in this order, each rounded once, then the conversion. -/
def rateOf (p : Params) (delta : Int) : Half :=
  let t1 := fdiv (i2f delta) (i2f p.ticksPerRev)
  let t2 := fmul t1 (i2f p.refreshHz)
  let t3 := fmul t2 sixty
  let t4 := fmul t3 p.rateScale
  f2i16 t4

end Sys2Proof.Machine
end

