-- ==== Sys2Proof/Machine/Flags.lean ====
section
/-! DEFINITION. The flags of the control byte and the mode they decode to (spec/10_state.md R22,
spec/30_encoding.md R112, spec/45_control_loop.md R291), and the bits of `updated` (R46). The hardware has no
arithmetic condition codes (R51). -/

namespace Sys2Proof.Machine

/-- Bit 0, SPEED. -/
def speedFlag (c : Byte) : Bool :=
  c.getLsbD 0

/-- Bit 1, MODE. -/
def modeFlag (c : Byte) : Bool :=
  c.getLsbD 1

/-- Bit 2, ENCODER. -/
def encoderFlag (c : Byte) : Bool :=
  c.getLsbD 2

/-- Bit 3, BRAKE. -/
def brakeFlag (c : Byte) : Bool :=
  c.getLsbD 3

/-- Bit 4, DIRECTION: `false` forward (R22). -/
def directionFlag (c : Byte) : Bool :=
  c.getLsbD 4

/-- Bit 5, NEW_CURRENT. -/
def newCurrentFlag (c : Byte) : Bool :=
  c.getLsbD 5

/-- `control[m].DIRECTION <- d`, the other bits kept (R303). -/
def setDirection (c : Byte) (d : Bool) : Byte :=
  if d then c ||| 0x10 else c &&& 0xEF

/-- `control[m].NEW_CURRENT <- 1`, the other bits kept (R355). -/
def setNewCurrent (c : Byte) : Byte :=
  c ||| 0x20

/-- `mode_of`: SPEED and MODE give RATE, SPEED alone RAMP, else DIRECT (R291). -/
def modeOf (c : Byte) : Mode :=
  match speedFlag c, modeFlag c with
  | true, true => .rate
  | true, false => .ramp
  | false, _ => .direct

/-- `mode(m)` (R291). -/
def MotorRegs.mode (m : MotorRegs) : Mode :=
  modeOf m.control

/-- `updated[k] <- 1` (R46). -/
def markUpdated (u : BitVec 16) (k : Nat) : BitVec 16 :=
  u ||| (1#16 <<< k)

/-- `u[0] or u[1] or u[10]` for motor 1, `u[3] or u[4] or u[10]` for motor 2 (R180). -/
def needsUpdate (u : BitVec 16) : MotorId → Bool
  | .m1 => u.getLsbD 0 || u.getLsbD 1 || u.getLsbD 10
  | .m2 => u.getLsbD 3 || u.getLsbD 4 || u.getLsbD 10

end Sys2Proof.Machine
end

