-- ==== Sys2Proof/Machine/Operands.lean ====
section
/-! DEFINITION. The address map and its classes (spec/30_encoding.md R110, R111), and the operand forms: the
read formats of R103 and the assembly of written fields (R106). -/

namespace Sys2Proof.Machine

/-- The eleven registers of a motor, in the order of their addresses (R110). -/
inductive MotorReg where
  | control
  | power
  | targetRate
  | currentPower
  | scaledPower
  | currentRate
  | encoder
  | current
  | pidP
  | pidI
  | pidD
  deriving DecidableEq, Repr

/-- A mapped register (R110). -/
inductive Reg where
  | motor (m : MotorId) (r : MotorReg)
  | pidKp
  | pidKi
  | pidKd
  | rampingRate
  | minPower
  | busAddress
  | settingsSave
  | settingsLoad
  | softReset
  deriving DecidableEq, Repr

/-- The access column of R110. -/
inductive Access where
  | readWrite
  | readOnly
  | writeOnly
  deriving DecidableEq, Repr

/-- The offset of a motor register from its motor's first address (R110). -/
def MotorReg.offset : MotorReg → Nat
  | .control => 0x00
  | .power => 0x01
  | .targetRate => 0x02
  | .currentPower => 0x03
  | .scaledPower => 0x04
  | .currentRate => 0x05
  | .encoder => 0x06
  | .current => 0x07
  | .pidP => 0x08
  | .pidI => 0x09
  | .pidD => 0x0A

/-- The first address of a motor's registers (R82). -/
def motorBase : MotorId → Nat
  | .m1 => 0x00
  | .m2 => 0x10

/-- The address column of R110. -/
def Reg.addr : Reg → Byte
  | .motor m r => BitVec.ofNat 8 (motorBase m + r.offset)
  | .pidKp => 0x20
  | .pidKi => 0x21
  | .pidKd => 0x22
  | .rampingRate => 0x23
  | .minPower => 0x24
  | .busAddress => 0x30
  | .settingsSave => 0x31
  | .settingsLoad => 0x32
  | .softReset => 0x33

/-- The register at an address; `none` is unmapped (R82, R110). -/
def regAt (a : Byte) : Option Reg :=
  match a.toNat with
  | 0x00 => some (.motor .m1 .control)
  | 0x01 => some (.motor .m1 .power)
  | 0x02 => some (.motor .m1 .targetRate)
  | 0x03 => some (.motor .m1 .currentPower)
  | 0x04 => some (.motor .m1 .scaledPower)
  | 0x05 => some (.motor .m1 .currentRate)
  | 0x06 => some (.motor .m1 .encoder)
  | 0x07 => some (.motor .m1 .current)
  | 0x08 => some (.motor .m1 .pidP)
  | 0x09 => some (.motor .m1 .pidI)
  | 0x0A => some (.motor .m1 .pidD)
  | 0x10 => some (.motor .m2 .control)
  | 0x11 => some (.motor .m2 .power)
  | 0x12 => some (.motor .m2 .targetRate)
  | 0x13 => some (.motor .m2 .currentPower)
  | 0x14 => some (.motor .m2 .scaledPower)
  | 0x15 => some (.motor .m2 .currentRate)
  | 0x16 => some (.motor .m2 .encoder)
  | 0x17 => some (.motor .m2 .current)
  | 0x18 => some (.motor .m2 .pidP)
  | 0x19 => some (.motor .m2 .pidI)
  | 0x1A => some (.motor .m2 .pidD)
  | 0x20 => some .pidKp
  | 0x21 => some .pidKi
  | 0x22 => some .pidKd
  | 0x23 => some .rampingRate
  | 0x24 => some .minPower
  | 0x30 => some .busAddress
  | 0x31 => some .settingsSave
  | 0x32 => some .settingsLoad
  | 0x33 => some .softReset
  | _ => none

/-- The `W` column of a motor register (R110). -/
def MotorReg.width : MotorReg → Nat
  | .control => 1
  | .power => 1
  | .targetRate => 2
  | .currentPower => 1
  | .scaledPower => 1
  | .currentRate => 2
  | .encoder => 4
  | .current => 2
  | .pidP => 4
  | .pidI => 4
  | .pidD => 4

/-- The `W` column of R110. -/
def Reg.width : Reg → Nat
  | .motor _ r => r.width
  | .pidKp => 4
  | .pidKi => 4
  | .pidKd => 4
  | .rampingRate => 1
  | .minPower => 1
  | .busAddress => 1
  | .settingsSave => 1
  | .settingsLoad => 0
  | .softReset => 0

/-- The access column of a motor register (R110). -/
def MotorReg.access : MotorReg → Access
  | .control => .readWrite
  | .power => .readWrite
  | .targetRate => .readWrite
  | .currentPower => .readOnly
  | .scaledPower => .readOnly
  | .currentRate => .readOnly
  | .encoder => .readOnly
  | .current => .readOnly
  | .pidP => .readOnly
  | .pidI => .readOnly
  | .pidD => .readOnly

/-- The access column of R110. -/
def Reg.access : Reg → Access
  | .motor _ r => r.access
  | .pidKp => .readWrite
  | .pidKi => .readWrite
  | .pidKd => .readWrite
  | .rampingRate => .readWrite
  | .minPower => .readWrite
  | .busAddress => .readWrite
  | .settingsSave => .writeOnly
  | .settingsLoad => .writeOnly
  | .softReset => .writeOnly

/-- The `ub` column of R110: the register's bit of `updated` (R46). -/
def Reg.updatedBit : Reg → Option Nat
  | .motor .m1 .control => some 0
  | .motor .m1 .power => some 1
  | .motor .m1 .targetRate => some 2
  | .motor .m2 .control => some 3
  | .motor .m2 .power => some 4
  | .motor .m2 .targetRate => some 5
  | .motor _ .currentPower => none
  | .motor _ .scaledPower => none
  | .motor _ .currentRate => none
  | .motor _ .encoder => none
  | .motor _ .current => none
  | .motor _ .pidP => none
  | .motor _ .pidI => none
  | .motor _ .pidD => none
  | .pidKp => some 6
  | .pidKi => some 7
  | .pidKd => some 8
  | .rampingRate => some 9
  | .minPower => some 10
  | .busAddress => some 11
  | .settingsSave => some 12
  | .settingsLoad => some 13
  | .softReset => some 14

/-- `mapped(a)` (R111). -/
def mapped (a : Byte) : Bool :=
  (regAt a).isSome

/-- Access RW or WO (R111). -/
def Reg.writable (r : Reg) : Bool :=
  r.access != .readOnly

/-- Access RW or RO (R111). -/
def Reg.readable (r : Reg) : Bool :=
  r.access != .writeOnly

/-- `command(a)`: 0x30 to 0x33 (R111). -/
def Reg.command : Reg → Bool
  | .busAddress => true
  | .settingsSave => true
  | .settingsLoad => true
  | .softReset => true
  | .motor _ _ => false
  | .pidKp => false
  | .pidKi => false
  | .pidKd => false
  | .rampingRate => false
  | .minPower => false

/-- `data_writable(a)`: writable and not a command (R111). -/
def dataWritable (a : Byte) : Bool :=
  match regAt a with
  | some r => r.writable && !r.command
  | none => false

/-! ### Read formats (R103): the field big-endian, then zeros (R76) -/

/-- Format `R1`. -/
def blockR1 (v : Byte) : ReadBlock :=
  ⟨v, 0x00, 0x00, 0x00⟩

/-- Format `R2`. -/
def blockR2 (v : Half) : ReadBlock :=
  ⟨v.extractLsb' 8 8, v.extractLsb' 0 8, 0x00, 0x00⟩

/-- Formats `R4` and `RF`. -/
def blockR4 (v : Word) : ReadBlock :=
  ⟨v.extractLsb' 24 8, v.extractLsb' 16 8, v.extractLsb' 8 8, v.extractLsb' 0 8⟩

/-- The answer for a write-only address (R76, R249). -/
def blockZero : ReadBlock :=
  ⟨0x00, 0x00, 0x00, 0x00⟩

/-! ### Written fields (R106), from the big-endian value of the staged bytes -/

/-- `u8` and the save selector: the byte. -/
def asByte (v : Nat) : Byte :=
  BitVec.ofNat 8 v

/-- `i16`: the 16-bit two's-complement pattern of `sext_16`. -/
def asHalf (v : Nat) : Half :=
  BitVec.ofNat 16 v

/-- `f32`: the 32-bit pattern, unchanged. -/
def asPattern (v : Nat) : F32 :=
  BitVec.ofNat 32 v

/-- Control byte: `s0[5:0]`, bits 7:6 forced to 0. -/
def asControl (v : Byte) : Byte :=
  v &&& 0x3F

/-- Bus address: `s0[6:0]`, bit 7 dropped. -/
def asBusAddress (v : Byte) : Byte :=
  v &&& 0x7F

end Sys2Proof.Machine
end

