-- ==== Sys2Proof/Machine/Ops.lean ====
section
/-! DEFINITION. The operations the meanings share: the output stage (spec/46_output_stage.md), the control-byte
routine (spec/42_register_writes.md R200), the derived-state path (spec/45_control_loop.md R320), register access
(spec/20_memory.md R76, R77), the settings store (spec/44_commands_settings.md R262 to R268), reset
(spec/70_reset_and_hazards.md R411), and the way an event enters its handler (spec/60_exceptions.md R373,
R395). The hardware has no exceptions: an event saves nothing, changes no mode and returns nowhere (R373, R374). -/

namespace Sys2Proof.Machine

/-- The outcome of a handler. -/
abbrev Result := Host.Outcome State Fault Refusal

/-- A second handler on the state the first one leaves. -/
def andThen (o : Result) (f : State → Result) : Result :=
  match o with
  | .next s => f s
  | .fault r => .fault r
  | .refused r => .refused r

/-- Event entry (R365, R373): the handler runs, but in `HALTED` the event is dropped (R395). -/
def whenRunning (handler : State → Result) (s : State) : Result :=
  match s.run with
  | .running => handler s
  | .halted => .next s

/-- The registers of motor `i` changed by `f`. -/
def State.mapMotor (s : State) (i : MotorId) (f : MotorRegs → MotorRegs) : State :=
  s.setMotor i (f (s.motor i))

/-! ### Output stage -/

/-- `requested(m)` (R333): `target_rate` in RATE mode, `set_power` otherwise. -/
def MotorRegs.requested (m : MotorRegs) : Bool :=
  match m.mode with
  | .rate => m.targetRate != 0
  | .ramp => m.setPower != 0
  | .direct => m.setPower != 0

/-- `APPLY(m)` (R331). -/
def MotorRegs.apply (m : MotorRegs) : MotorRegs :=
  if m.currentPower = 0 then
    { m with
      outMode := if brakeFlag m.control && !m.requested then .brake else .float
      outDuty := 0 }
  else if m.currentPower = 255 then
    { m with outMode := .full, outDuty := 255 }
  else
    { m with outMode := .pwm, outDuty := m.currentPower }

/-! ### Control byte and derived state -/

/-- The reset of a mode switch: PID terms and `target_rate` to zero (R200). -/
def MotorRegs.clearLoop (m : MotorRegs) : MotorRegs :=
  { m with pidP := 0, pidI := 0, pidD := 0, targetRate := 0 }

/-- `COMMIT_CONTROL(m, v)` (R200). -/
def MotorRegs.commitControl (m : MotorRegs) (v : Byte) : MotorRegs :=
  let new := asControl v
  if modeOf new ≠ m.mode then { m.clearLoop with control := new }
  else { m with control := new }

/-- `current_power` and `out_pol` straight from the request (R312, R320). -/
def MotorRegs.passThrough (m : MotorRegs) : MotorRegs :=
  { m with currentPower := m.scaledPower, outPol := directionFlag m.control }

/-- `scaled_power[m] <- rescale(set_power[m])` (R307, R312, R320). -/
def MotorRegs.rescaled (m : MotorRegs) (minPower : Byte) : MotorRegs :=
  { m with scaledPower := rescale minPower m.setPower }

/-- `UPDATE(m)` (R320). -/
def MotorRegs.update (m : MotorRegs) (minPower : Byte) : MotorRegs :=
  let m := m.rescaled minPower
  match m.mode with
  | .direct => m.passThrough.apply
  | .ramp => m.apply
  | .rate => m.apply

/-- `UPDATE(i)` on the state (R320). -/
def State.update (s : State) (i : MotorId) : State :=
  s.mapMotor i (fun m => m.update s.tun.minPower)

/-! ### Register access -/

/-- The read block of a motor register (R76, R221 to R242). -/
def MotorRegs.readBlock (m : MotorRegs) : MotorReg → ReadBlock
  | .control => blockR1 m.control
  | .power => blockR1 m.setPower
  | .targetRate => blockR2 m.targetRate
  | .currentPower => blockR1 m.currentPower
  | .scaledPower => blockR1 m.scaledPower
  | .currentRate => blockR2 m.currentRate
  | .encoder => blockR4 m.encoderValue
  | .current => blockR2 m.currentDraw
  | .pidP => blockR4 m.pidP
  | .pidI => blockR4 m.pidI
  | .pidD => blockR4 m.pidD

/-- The read block of a mapped register; zeros for a write-only one (R76, R249). -/
def State.readReg (s : State) : Reg → ReadBlock
  | .motor i r => (s.motor i).readBlock r
  | .pidKp => blockR4 s.tun.kP
  | .pidKi => blockR4 s.tun.kI
  | .pidKd => blockR4 s.tun.kD
  | .rampingRate => blockR1 s.tun.rampingRate
  | .minPower => blockR1 s.tun.minPower
  | .busAddress => blockR1 s.tun.busAddress
  | .settingsSave => blockZero
  | .settingsLoad => blockZero
  | .softReset => blockZero

/-- `MemRead(addr, 4)` (R76); not defined for an unmapped address. -/
def State.memRead (s : State) (addr : Byte) : Option ReadBlock :=
  (regAt addr).map s.readReg

/-- The decode routine of a motor register, for the big-endian value of its bytes (R200 to R206); none for a
read-only one. -/
def MotorRegs.write (m : MotorRegs) (v : Nat) : MotorReg → Option MotorRegs
  | .control => some (m.commitControl (asByte v))
  | .power => some { m with setPower := asByte v }
  | .targetRate => some { m with targetRate := asHalf v }
  | .currentPower => none
  | .scaledPower => none
  | .currentRate => none
  | .encoder => none
  | .current => none
  | .pidP => none
  | .pidI => none
  | .pidD => none

/-- The decode routine of a register (R201 to R211, R260, R264); none for a read-only register and for the two
commands without payload. -/
def State.writeReg (s : State) (v : Nat) : Reg → Option State
  | .motor i r => ((s.motor i).write v r).map (s.setMotor i)
  | .pidKp => some { s with tun := { s.tun with kP := asPattern v } }
  | .pidKi => some { s with tun := { s.tun with kI := asPattern v } }
  | .pidKd => some { s with tun := { s.tun with kD := asPattern v } }
  | .rampingRate => some { s with tun := { s.tun with rampingRate := asByte v } }
  | .minPower => some { s with tun := { s.tun with minPower := asByte v } }
  | .busAddress => some { s with tun := { s.tun with busAddress := asBusAddress (asByte v) } }
  | .settingsSave => some { s with bus := { s.bus with saveSelector := asByte v } }
  | .settingsLoad => none
  | .softReset => none

/-- `updated[ub(r)] <- 1` (R46, R77, R172). -/
def State.markUpdated (s : State) (r : Reg) : State :=
  match r.updatedBit with
  | some k => { s with bus := { s.bus with updated := Machine.markUpdated s.bus.updated k } }
  | none => s

/-! ### Settings store -/

/-- `groups(nv)` (R263): none while the never-saved marker is set. -/
def NvStore.groups (nv : NvStore) : Byte :=
  if nv.mask.getLsbD 7 then 0 else nv.mask &&& 0x3F

/-- `SAVE(sel)` (R266). -/
def State.save (s : State) (sel : Byte) : State :=
  let g := sel &&& 0x3F
  if g = 0 then s
  else
    { s with nv :=
        { mask := NvStore.groups s.nv ||| g
          m1Control := if g.getLsbD 0 then s.m1.control &&& 0x1F else s.nv.m1Control
          m2Control := if g.getLsbD 1 then s.m2.control &&& 0x1F else s.nv.m2Control
          rampingRate := if g.getLsbD 2 then s.tun.rampingRate else s.nv.rampingRate
          minPower := if g.getLsbD 3 then s.tun.minPower else s.nv.minPower
          busAddress := if g.getLsbD 4 then s.tun.busAddress else s.nv.busAddress
          kP := if g.getLsbD 5 then s.tun.kP else s.nv.kP
          kI := if g.getLsbD 5 then s.tun.kI else s.nv.kI
          kD := if g.getLsbD 5 then s.tun.kD else s.nv.kD } }

/-- The tunables a load gives: each group's slot where the group is saved, else its default (R268). -/
def loadedTunables (nv : NvStore) (p : Params) : Tunables :=
  let g := NvStore.groups nv
  { kP := if g.getLsbD 5 then nv.kP else p.defKP
    kI := if g.getLsbD 5 then nv.kI else p.defKI
    kD := if g.getLsbD 5 then nv.kD else p.defKD
    rampingRate := if g.getLsbD 2 then nv.rampingRate else p.defRampingRate
    minPower := if g.getLsbD 3 then nv.minPower else p.defMinPower
    busAddress := if g.getLsbD 4 then asBusAddress nv.busAddress else p.defBusAddress.zeroExtend 8 }

/-- The control byte a load gives motor `i`, before the live NEW_CURRENT is joined to it (R268). -/
def loadedControl (nv : NvStore) (p : Params) : MotorId → Byte
  | .m1 => if (NvStore.groups nv).getLsbD 0 then nv.m1Control &&& 0x1F else p.defControl
  | .m2 => if (NvStore.groups nv).getLsbD 1 then nv.m2Control &&& 0x1F else p.defControl

/-- `COMMIT_CONTROL(i, c | (control[i] & 0x20))` for the loaded byte `c` (R268). -/
def State.loadControl (s : State) (i : MotorId) : State :=
  s.mapMotor i (fun m => m.commitControl (loadedControl s.nv s.params i ||| (m.control &&& 0x20)))

/-- `LOAD()` (R268). -/
def State.load (s : State) : State :=
  let s := (s.loadControl .m1).loadControl .m2
  let s := { s with tun := loadedTunables s.nv s.params }
  (s.update .m1).update .m2

/-! ### Reset -/

/-- Step 1 of `RESET()`: every register to its value of R55; `nv` is not written (R411). The model's own
fields stay as they are (notes/assumptions/12.md). -/
def State.clearRegs (s : State) : State :=
  { s with
    m1 := MotorRegs.cleared
    m2 := MotorRegs.cleared
    tun :=
      { kP := s.params.defKP
        kI := s.params.defKI
        kD := s.params.defKD
        rampingRate := s.params.defRampingRate
        minPower := s.params.defMinPower
        busAddress := s.params.defBusAddress.zeroExtend 8 }
    bus := BusRegs.cleared
    adcChan := .m1
    run := .running }

/-- `RESET()`, the handler of `POR` and of `WDT` in every state (R411). -/
def State.resetCore (s : State) : State :=
  s.clearRegs.load

/-- The machine after its first power-on with the parameters `p`: the store holds `NV_INIT` (R12, R50). -/
def State.powerOn (p : Params) : State :=
  State.resetCore { State.reset with params := p, nv := p.nvInit }

end Sys2Proof.Machine
end

