-- ==== Sys2Proof/Machine/Control.lean ====
section
/-! DEFINITION. The motor control loop: `TICK` (spec/45_control_loop.md R290 to R312). -/

namespace Sys2Proof.Machine

/-- `RATE_STEP(m)` (R295). The 32-bit difference is `wrap32` of the exact one (R143). -/
def MotorRegs.rateStep (m : MotorRegs) (p : Params) : MotorRegs :=
  { m with
    currentRate := rateOf p (m.encoderValue - m.oldEnc).toInt
    oldEnc := m.encoderValue }

/-- `PID_STEP`, first part: the three terms (R300). The rate differences are exact integers (R144). -/
def MotorRegs.pidTerms (m : MotorRegs) (t : Tunables) (prevRate : Half) : MotorRegs :=
  let e := m.targetRate.toInt - m.currentRate.toInt
  let dr := prevRate.toInt - m.currentRate.toInt
  { m with
    pidP := fmul t.kP (i2f m.targetRate.toInt)
    pidI := fadd m.pidI (fmul t.kI (i2f e))
    pidD := fmul t.kD (i2f dr) }

/-- The sum of the terms, in the order of R300. -/
def MotorRegs.pidSum (m : MotorRegs) : F32 :=
  fadd (fadd m.pidP m.pidI) m.pidD

/-- `PID_STEP`, second part: `max(f2u8(fabs(sum)), min_power)` (R302). -/
def pidPower (sum : F32) (minPower : Byte) : Byte :=
  if minPower ≤ f2u8 (fabs sum) then f2u8 (fabs sum) else minPower

/-- `PID_STEP`, third part: DIRECTION follows the sign of the sum, and keeps its value where the sum has none
(R303). -/
def pidDirection (sum : F32) (c : Byte) : Byte :=
  if flt (zero false) sum && directionFlag c then setDirection c false
  else if flt sum (zero false) && !directionFlag c then setDirection c true
  else c

/-- `PID_STEP(m, prev_rate)` (R300, R302, R303). -/
def MotorRegs.pidStep (m : MotorRegs) (t : Tunables) (prevRate : Half) : MotorRegs :=
  let m := m.pidTerms t prevRate
  let c := pidDirection m.pidSum m.control
  { m with
    currentPower := pidPower m.pidSum t.minPower
    control := c
    outPol := directionFlag c }

/-- `current_power` toward a target from below or from above by at most `rate`, without wrap (R141, R308). -/
def rampToward (current target rate : Byte) : Byte :=
  if current < target then BitVec.ofNat 8 (min (current.toNat + rate.toNat) target.toNat)
  else if target < current then BitVec.ofInt 8 (max ((current.toNat : Int) - rate.toNat) target.toNat)
  else current

/-- The normal ramp (R308). -/
def MotorRegs.normalRamp (m : MotorRegs) (rampingRate : Byte) : MotorRegs :=
  { m with currentPower := rampToward m.currentPower m.scaledPower rampingRate }

/-- `RAMP_STEP(m)` (R307, R308, R309): on a direction mismatch the power first goes down to `min_power`, and
the polarity flips on the first tick that finds it there. -/
def MotorRegs.rampStep (m : MotorRegs) (t : Tunables) : MotorRegs :=
  let m := m.rescaled t.minPower
  if m.outPol = directionFlag m.control then m.normalRamp t.rampingRate
  else if t.minPower < m.currentPower then
    { m with currentPower := rampToward m.currentPower t.minPower t.rampingRate }
  else { m with outPol := directionFlag m.control }.normalRamp t.rampingRate

/-- `DIRECT_STEP(m)` (R312). -/
def MotorRegs.directStep (m : MotorRegs) (t : Tunables) : MotorRegs :=
  (m.rescaled t.minPower).passThrough

/-- The power path of the mode in force (R292). -/
def MotorRegs.powerStep (m : MotorRegs) (t : Tunables) (prevRate : Half) : MotorRegs :=
  match m.mode with
  | .rate => m.pidStep t prevRate
  | .ramp => m.rampStep t
  | .direct => m.directStep t

/-- `TICK_MOTOR(m)` (R292). -/
def MotorRegs.tick (m : MotorRegs) (t : Tunables) (p : Params) : MotorRegs :=
  let measured := if encoderFlag m.control then m.rateStep p else m
  (measured.powerStep t m.currentRate).apply

/-- `TICK_MOTOR(i)` on the state (R292). -/
def State.tickMotor (s : State) (i : MotorId) : State :=
  s.mapMotor i (fun m => m.tick s.tun s.params)

/-- `TICK` (R290): motor 1, then motor 2. -/
def execTick (s : State) : Result :=
  whenRunning (fun s => .next ((s.tickMotor .m1).tickMotor .m2)) s

end Sys2Proof.Machine
end

