-- ==== Sys2Proof/Machine/Bus.lean ====
section
/-! DEFINITION. The register bus protocol engine: the handlers of `START_W`, `RX`, `END_W` and `REQ`
(spec/41_bus_transactions.md R171 to R185). -/

namespace Sys2Proof.Machine

/-- `START_W` on a running core (R171). -/
def State.startWrite (s : State) : State :=
  { s with bus := { s.bus with rxPhase := .addr, stage := [], advPending := false } }

/-- `rx_phase <- p`. -/
def State.setPhase (s : State) (p : RxPhase) : State :=
  { s with bus := { s.bus with rxPhase := p } }

/-- `active_addr <- a`. -/
def State.select (s : State) (a : Byte) : State :=
  { s with bus := { s.bus with activeAddr := a } }

/-- The phase an address byte leads to, for a mapped register (R172). -/
def Reg.phaseAfterSelect : Reg → RxPhase
  | .settingsLoad => .discard
  | .softReset => .discard
  | r => if r.writable then .data else .discard

/-- Selecting a mapped register; the two commands without payload are armed at once (R172). -/
def State.selectReg (s : State) (a : Byte) (r : Reg) : State :=
  let s := (s.select a).setPhase r.phaseAfterSelect
  match r with
  | .settingsLoad => s.markUpdated .settingsLoad
  | .softReset => s.markUpdated .softReset
  | _ => s

/-- `RX(b)` in the address phase (R172); an unmapped address drops the rest of the transaction (R115). -/
def State.rxAddress (s : State) (b : Byte) : State :=
  match regAt b with
  | some r => s.selectReg b r
  | none => s.setPhase .discard

/-- The commit of a complete field: the decode routine, the `updated` bit, then the emptied staging buffer
and the pending advance (R77, R174). -/
def State.commitField (s : State) (r : Reg) (bytes : List Byte) : Result :=
  match s.writeReg (fromBE bytes) r with
  | some s' =>
    let s' := s'.markUpdated r
    .next { s' with bus := { s'.bus with stage := [], advPending := true } }
  | none => .fault (.noDecodeRoutine s.bus.activeAddr)

/-- Staging of a value byte for `active_addr`, and the commit when it is the field's last (R174). -/
def State.stageByte (s : State) (b : Byte) : Result :=
  match regAt s.bus.activeAddr with
  | some r =>
    let bytes := s.bus.stage ++ [b]
    if bytes.length = r.width then s.commitField r bytes
    else .next { s with bus := { s.bus with stage := bytes } }
  | none => .fault (.noDecodeRoutine s.bus.activeAddr)

/-- `RX(b)` in the data phase: the deferred advance (R173), then the staging (R174). -/
def State.rxData (s : State) (b : Byte) : Result :=
  if s.bus.advPending then
    let s := { s with bus := { s.bus with advPending := false } }
    let n := s.bus.activeAddr + 1
    if dataWritable s.bus.activeAddr && dataWritable n then (s.select n).stageByte b
    else .next (s.setPhase .discard)
  else s.stageByte b

/-- `RX(b)` on a running core (R172 to R175). -/
def State.receive (s : State) (b : Byte) : Result :=
  match s.bus.rxPhase with
  | .addr => .next (s.rxAddress b)
  | .data => s.rxData b
  | .discard => .next s
  | .idle => .next s

/-- `if u[…]: UPDATE(i)` (R180). -/
def State.updateIf (s : State) (u : BitVec 16) (i : MotorId) : State :=
  if needsUpdate u i then s.update i else s

/-- The work of the bits `u` at the end of a transaction, in the order R180 fixes: recomputations, save, load,
halt (R271). -/
def State.processUpdated (s : State) (u : BitVec 16) : State :=
  let s := (s.updateIf u .m1).updateIf u .m2
  let s := if u.getLsbD 12 then s.save s.bus.saveSelector else s
  let s := if u.getLsbD 13 then s.load else s
  if u.getLsbD 14 then { s with run := .halted } else s

/-- The protocol registers at the end of a transaction (R180, R181). -/
def State.closeTransaction (s : State) : State :=
  { s with bus := { s.bus with rxPhase := .idle, stage := [], advPending := false, updated := 0 } }

/-- `END_W` on a running core (R180). -/
def State.endWrite (s : State) : State :=
  s.closeTransaction.processUpdated s.bus.updated

/-- `REQ` on a running core (R185): the block of the active address; nothing else changes. -/
def State.request (s : State) : Result :=
  match s.memRead s.bus.activeAddr with
  | some b => .next { s with readBlock := some b }
  | none => .fault (.readUnmapped s.bus.activeAddr)

/-- `START_W` (R171). -/
def execStartW (s : State) : Result :=
  whenRunning (fun s => .next s.startWrite) s

/-- `RX(b)` (R172 to R175). -/
def execRx (b : Byte) (s : State) : Result :=
  whenRunning (fun s => s.receive b) s

/-- `END_W` (R180). -/
def execEndW (s : State) : Result :=
  whenRunning (fun s => .next s.endWrite) s

/-- `REQ` (R185); a halted core answers no data (R395). -/
def execReq (s : State) : Result :=
  match s.run with
  | .running => s.request
  | .halted => .next { s with readBlock := none }

/-- The value bytes of a transaction, one `RX` each. -/
def receiveAll : List Byte → State → Result
  | [], s => .next s
  | b :: rest, s => andThen (execRx b s) (receiveAll rest)

/-- A whole write transaction `START_W, RX(b0), …, RX(bn), END_W` (R101). -/
def writeTransaction (bytes : List Byte) (s : State) : Result :=
  andThen (execStartW s) fun s =>
  andThen (receiveAll bytes s) execEndW

/-- A register read: the selection of the address in a transaction of its own, then `REQ` (R103, R220). -/
def readTransaction (addr : Byte) (s : State) : Result :=
  andThen (writeTransaction [addr] s) execReq

end Sys2Proof.Machine
end

