-- ==== Sys2Proof/Machine/Reads.lean ====
section
/-! DEFINITION. The twenty-eight register reads (spec/43_register_reads.md R220 to R248): the selection of the
register's address, then one `REQ` (R103). The block is `State.readBlock` of the next state. -/

namespace Sys2Proof.Machine

/-- `RD M1_CONTROL` (R221). -/
def execRdM1Control (s : State) : Result :=
  readTransaction 0x00 s

/-- `RD M1_POWER` (R222). -/
def execRdM1Power (s : State) : Result :=
  readTransaction 0x01 s

/-- `RD M1_TARGET_RATE` (R223). -/
def execRdM1TargetRate (s : State) : Result :=
  readTransaction 0x02 s

/-- `RD M1_CURRENT_POWER` (R224). -/
def execRdM1CurrentPower (s : State) : Result :=
  readTransaction 0x03 s

/-- `RD M1_SCALED_POWER` (R225). -/
def execRdM1ScaledPower (s : State) : Result :=
  readTransaction 0x04 s

/-- `RD M1_CURRENT_RATE` (R226). -/
def execRdM1CurrentRate (s : State) : Result :=
  readTransaction 0x05 s

/-- `RD M1_ENCODER` (R227). -/
def execRdM1Encoder (s : State) : Result :=
  readTransaction 0x06 s

/-- `RD M1_CURRENT` (R228). -/
def execRdM1Current (s : State) : Result :=
  readTransaction 0x07 s

/-- `RD M1_PID_P` (R229). -/
def execRdM1PidP (s : State) : Result :=
  readTransaction 0x08 s

/-- `RD M1_PID_I` (R230). -/
def execRdM1PidI (s : State) : Result :=
  readTransaction 0x09 s

/-- `RD M1_PID_D` (R231). -/
def execRdM1PidD (s : State) : Result :=
  readTransaction 0x0A s

/-- `RD M2_CONTROL` (R232). -/
def execRdM2Control (s : State) : Result :=
  readTransaction 0x10 s

/-- `RD M2_POWER` (R233). -/
def execRdM2Power (s : State) : Result :=
  readTransaction 0x11 s

/-- `RD M2_TARGET_RATE` (R234). -/
def execRdM2TargetRate (s : State) : Result :=
  readTransaction 0x12 s

/-- `RD M2_CURRENT_POWER` (R235). -/
def execRdM2CurrentPower (s : State) : Result :=
  readTransaction 0x13 s

/-- `RD M2_SCALED_POWER` (R236). -/
def execRdM2ScaledPower (s : State) : Result :=
  readTransaction 0x14 s

/-- `RD M2_CURRENT_RATE` (R237). -/
def execRdM2CurrentRate (s : State) : Result :=
  readTransaction 0x15 s

/-- `RD M2_ENCODER` (R238). -/
def execRdM2Encoder (s : State) : Result :=
  readTransaction 0x16 s

/-- `RD M2_CURRENT` (R239). -/
def execRdM2Current (s : State) : Result :=
  readTransaction 0x17 s

/-- `RD M2_PID_P` (R240). -/
def execRdM2PidP (s : State) : Result :=
  readTransaction 0x18 s

/-- `RD M2_PID_I` (R241). -/
def execRdM2PidI (s : State) : Result :=
  readTransaction 0x19 s

/-- `RD M2_PID_D` (R242). -/
def execRdM2PidD (s : State) : Result :=
  readTransaction 0x1A s

/-- `RD PID_KP` (R243). -/
def execRdPidKp (s : State) : Result :=
  readTransaction 0x20 s

/-- `RD PID_KI` (R244). -/
def execRdPidKi (s : State) : Result :=
  readTransaction 0x21 s

/-- `RD PID_KD` (R245). -/
def execRdPidKd (s : State) : Result :=
  readTransaction 0x22 s

/-- `RD RAMPING_RATE` (R246). -/
def execRdRampingRate (s : State) : Result :=
  readTransaction 0x23 s

/-- `RD MIN_POWER` (R247). -/
def execRdMinPower (s : State) : Result :=
  readTransaction 0x24 s

/-- `RD BUS_ADDRESS` (R248). -/
def execRdBusAddress (s : State) : Result :=
  readTransaction 0x30 s

end Sys2Proof.Machine
end

