-- ==== Sys2Proof/Machine/ResetEvents.lean ====
section
/-! DEFINITION. The two reset events (spec/70_reset_and_hazards.md R410, R411; spec/60_exceptions.md R396). Both
run in every state, `HALTED` included. -/

namespace Sys2Proof.Machine

/-- `POR` (R411). -/
def execPor (s : State) : Result :=
  .next s.resetCore

/-- `WDT` (R396, R411): the same full reset, in `RUNNING` as well. -/
def execWdt (s : State) : Result :=
  .next s.resetCore

end Sys2Proof.Machine
end

