-- ==== Sys2Proof/Machine/Samplers.lean ====
section
/-! DEFINITION. The quadrature encoder accumulator (`ENC`, spec/47_encoder.md R345) and the current sampler
(`ADC`, spec/48_current_sampler.md R355). -/

namespace Sys2Proof.Machine

/-- One edge: companion level 0 counts up, 1 counts down, modulo 2^32; dropped while ENCODER is clear (R345). -/
def MotorRegs.countEdge (m : MotorRegs) (b : Bool) : MotorRegs :=
  if encoderFlag m.control then
    { m with encoderValue := if b then m.encoderValue - 1 else m.encoderValue + 1 }
  else m

/-- `ENC(m, b)` (R345). -/
def execEnc (m : MotorId) (b : Bool) (s : State) : Result :=
  whenRunning (fun s => .next (s.mapMotor m (fun r => r.countEdge b))) s

/-- The result recorded for its motor: `v mod 2^ADC_BITS`, zero-extended, and NEW_CURRENT set (R355). -/
def MotorRegs.recordDraw (m : MotorRegs) (adcBits v : Nat) : MotorRegs :=
  { m with
    currentDraw := BitVec.ofNat 16 (v % 2 ^ adcBits)
    control := setNewCurrent m.control }

/-- The conversion belongs to the channel selected before the toggle (R355). -/
def State.sample (s : State) (v : Nat) : State :=
  { s.mapMotor s.adcChan (fun m => m.recordDraw s.params.adcBits v) with adcChan := s.adcChan.other }

/-- `ADC(v)` (R355). -/
def execAdc (v : Nat) (s : State) : Result :=
  whenRunning (fun s => .next (s.sample v)) s

end Sys2Proof.Machine
end

