-- ==== Sys2Proof/Machine/Writes.lean ====
section
/-! DEFINITION. The fifteen register writes (spec/42_register_writes.md R201 to R211,
spec/44_commands_settings.md R260, R264, R267, R270). A row is carried by one write transaction (R101, R102): the
address byte, the field most significant byte first, then the end of the transaction with its dependent work
(R180). It is one step of the model with no other event between its bytes; a run that interleaves events uses
the transport events themselves (notes/assumptions/4.md). -/

namespace Sys2Proof.Machine

/-- `WR M1_CONTROL` (R201). -/
def execWrM1Control (v : Byte) (s : State) : Result :=
  writeTransaction [0x00, v] s

/-- `WR M1_POWER` (R202). -/
def execWrM1Power (v : Byte) (s : State) : Result :=
  writeTransaction [0x01, v] s

/-- `WR M1_TARGET_RATE` (R203). -/
def execWrM1TargetRate (v : Half) (s : State) : Result :=
  writeTransaction (0x02 :: be2 v) s

/-- `WR M2_CONTROL` (R204). -/
def execWrM2Control (v : Byte) (s : State) : Result :=
  writeTransaction [0x10, v] s

/-- `WR M2_POWER` (R205). -/
def execWrM2Power (v : Byte) (s : State) : Result :=
  writeTransaction [0x11, v] s

/-- `WR M2_TARGET_RATE` (R206). -/
def execWrM2TargetRate (v : Half) (s : State) : Result :=
  writeTransaction (0x12 :: be2 v) s

/-- `WR PID_KP` (R207). -/
def execWrPidKp (f : F32) (s : State) : Result :=
  writeTransaction (0x20 :: be4 f) s

/-- `WR PID_KI` (R208). -/
def execWrPidKi (f : F32) (s : State) : Result :=
  writeTransaction (0x21 :: be4 f) s

/-- `WR PID_KD` (R209). -/
def execWrPidKd (f : F32) (s : State) : Result :=
  writeTransaction (0x22 :: be4 f) s

/-- `WR RAMPING_RATE` (R210). -/
def execWrRampingRate (v : Byte) (s : State) : Result :=
  writeTransaction [0x23, v] s

/-- `WR MIN_POWER` (R211). -/
def execWrMinPower (v : Byte) (s : State) : Result :=
  writeTransaction [0x24, v] s

/-- `WR BUS_ADDRESS` (R260). -/
def execWrBusAddress (v : Byte) (s : State) : Result :=
  writeTransaction [0x30, v] s

/-- `WR SETTINGS_SAVE` (R264). -/
def execWrSettingsSave (v : Byte) (s : State) : Result :=
  writeTransaction [0x31, v] s

/-- `WR SETTINGS_LOAD` (R267). -/
def execWrSettingsLoad (s : State) : Result :=
  writeTransaction [0x32] s

/-- `WR SOFT_RESET` (R270). -/
def execWrSoftReset (s : State) : Result :=
  writeTransaction [0x33] s

end Sys2Proof.Machine
end

