-- ==== Sys2Proof/Machine/Dispatch.lean ====
section
/-! DEFINITION. One arm per row of spec/opcode_table.json. -/

namespace Sys2Proof.Machine

def exec (i : Instr) (s : State) : Host.Outcome State Fault Refusal :=
  match i with
  | .wrM1Control v => Sys2Proof.Machine.execWrM1Control v s
  | .wrM1Power v => Sys2Proof.Machine.execWrM1Power v s
  | .wrM1TargetRate v => Sys2Proof.Machine.execWrM1TargetRate v s
  | .wrM2Control v => Sys2Proof.Machine.execWrM2Control v s
  | .wrM2Power v => Sys2Proof.Machine.execWrM2Power v s
  | .wrM2TargetRate v => Sys2Proof.Machine.execWrM2TargetRate v s
  | .wrPidKp f => Sys2Proof.Machine.execWrPidKp f s
  | .wrPidKi f => Sys2Proof.Machine.execWrPidKi f s
  | .wrPidKd f => Sys2Proof.Machine.execWrPidKd f s
  | .wrRampingRate v => Sys2Proof.Machine.execWrRampingRate v s
  | .wrMinPower v => Sys2Proof.Machine.execWrMinPower v s
  | .wrBusAddress v => Sys2Proof.Machine.execWrBusAddress v s
  | .wrSettingsSave v => Sys2Proof.Machine.execWrSettingsSave v s
  | .wrSettingsLoad => Sys2Proof.Machine.execWrSettingsLoad s
  | .wrSoftReset => Sys2Proof.Machine.execWrSoftReset s
  | .rdM1Control => Sys2Proof.Machine.execRdM1Control s
  | .rdM1Power => Sys2Proof.Machine.execRdM1Power s
  | .rdM1TargetRate => Sys2Proof.Machine.execRdM1TargetRate s
  | .rdM1CurrentPower => Sys2Proof.Machine.execRdM1CurrentPower s
  | .rdM1ScaledPower => Sys2Proof.Machine.execRdM1ScaledPower s
  | .rdM1CurrentRate => Sys2Proof.Machine.execRdM1CurrentRate s
  | .rdM1Encoder => Sys2Proof.Machine.execRdM1Encoder s
  | .rdM1Current => Sys2Proof.Machine.execRdM1Current s
  | .rdM1PidP => Sys2Proof.Machine.execRdM1PidP s
  | .rdM1PidI => Sys2Proof.Machine.execRdM1PidI s
  | .rdM1PidD => Sys2Proof.Machine.execRdM1PidD s
  | .rdM2Control => Sys2Proof.Machine.execRdM2Control s
  | .rdM2Power => Sys2Proof.Machine.execRdM2Power s
  | .rdM2TargetRate => Sys2Proof.Machine.execRdM2TargetRate s
  | .rdM2CurrentPower => Sys2Proof.Machine.execRdM2CurrentPower s
  | .rdM2ScaledPower => Sys2Proof.Machine.execRdM2ScaledPower s
  | .rdM2CurrentRate => Sys2Proof.Machine.execRdM2CurrentRate s
  | .rdM2Encoder => Sys2Proof.Machine.execRdM2Encoder s
  | .rdM2Current => Sys2Proof.Machine.execRdM2Current s
  | .rdM2PidP => Sys2Proof.Machine.execRdM2PidP s
  | .rdM2PidI => Sys2Proof.Machine.execRdM2PidI s
  | .rdM2PidD => Sys2Proof.Machine.execRdM2PidD s
  | .rdPidKp => Sys2Proof.Machine.execRdPidKp s
  | .rdPidKi => Sys2Proof.Machine.execRdPidKi s
  | .rdPidKd => Sys2Proof.Machine.execRdPidKd s
  | .rdRampingRate => Sys2Proof.Machine.execRdRampingRate s
  | .rdMinPower => Sys2Proof.Machine.execRdMinPower s
  | .rdBusAddress => Sys2Proof.Machine.execRdBusAddress s
  | .por => Sys2Proof.Machine.execPor s
  | .wdt => Sys2Proof.Machine.execWdt s
  | .tick => Sys2Proof.Machine.execTick s
  | .enc m b => Sys2Proof.Machine.execEnc m b s
  | .adc v => Sys2Proof.Machine.execAdc v s
  | .startW => Sys2Proof.Machine.execStartW s
  | .rx b => Sys2Proof.Machine.execRx b s
  | .endW => Sys2Proof.Machine.execEndW s
  | .req => Sys2Proof.Machine.execReq s

end Sys2Proof.Machine
end

