-- ==== Sys2Proof/Machine/Fetch.lean ====
section
/-! DEFINITION. Where a step takes its operation from: the head of the input trace (spec/30_encoding.md R121,
notes/assumptions/1.md). -/

namespace Sys2Proof.Machine

/-- The operation at the head of the input trace, and the trace after it. -/
def State.fetch (s : State) : DecodeResult :=
  decode s.input

/-- The trace bytes of a row of the opcode table, without the zero bytes its operation does not use. -/
def tableTrace (nbits w : Nat) : List Byte :=
  let bytes := tableBytes nbits w
  match decode bytes with
  | .ok (_, rest) => bytes.take (bytes.length - rest.length)
  | .error _ => bytes

end Sys2Proof.Machine
end

