-- ==== Sys2Proof/Machine/Step.lean ====
section
/-! DEFINITION. One step: the next operation of the input trace (notes/assumptions/1.md). -/

namespace Sys2Proof.Machine

/-- One step. With no event left the core is idle and keeps its state (R373, R403); otherwise the operation at
the head of the trace is taken from it and executed. -/
def step (s : State) : Host.Outcome State Fault Refusal :=
  match s.input with
  | [] => .next s
  | _ :: _ =>
    match s.fetch with
    | .ok (i, rest) => exec i { s with input := rest }
    | .error e => .refused (.malformedTrace e)

/-- The state with one row of the opcode table as its whole input trace, so that the next step runs it. -/
def State.withFetchWord (s : State) (nbits w : Nat) : State :=
  { s with input := tableTrace nbits w }

end Sys2Proof.Machine
end

