-- ==== Sys2Proof/Machine/Arbitration.lean ====
section
/-! DEFINITION. The priority of simultaneous events (spec/60_exceptions.md R367). It is a rule for whoever turns
pending requests into the input trace; the step function takes events already in order and never uses it
(R372, notes/assumptions/13.md). -/

namespace Sys2Proof.Machine

/-- The rank of R367, 0 highest: `POR > WDT > ENC(1, .) > ENC(2, .) > TICK > ADC > START_W = RX = END_W > REQ`.
A register write or read begins with bus write events. -/
def rank : Instr → Nat
  | .por => 0
  | .wdt => 1
  | .enc .m1 _ => 2
  | .enc .m2 _ => 3
  | .tick => 4
  | .adc _ => 5
  | .startW => 6
  | .rx _ => 6
  | .endW => 6
  | .req => 7
  | .wrM1Control _ => 6
  | .wrM1Power _ => 6
  | .wrM1TargetRate _ => 6
  | .wrM2Control _ => 6
  | .wrM2Power _ => 6
  | .wrM2TargetRate _ => 6
  | .wrPidKp _ => 6
  | .wrPidKi _ => 6
  | .wrPidKd _ => 6
  | .wrRampingRate _ => 6
  | .wrMinPower _ => 6
  | .wrBusAddress _ => 6
  | .wrSettingsSave _ => 6
  | .wrSettingsLoad => 6
  | .wrSoftReset => 6
  | .rdM1Control => 6
  | .rdM1Power => 6
  | .rdM1TargetRate => 6
  | .rdM1CurrentPower => 6
  | .rdM1ScaledPower => 6
  | .rdM1CurrentRate => 6
  | .rdM1Encoder => 6
  | .rdM1Current => 6
  | .rdM1PidP => 6
  | .rdM1PidI => 6
  | .rdM1PidD => 6
  | .rdM2Control => 6
  | .rdM2Power => 6
  | .rdM2TargetRate => 6
  | .rdM2CurrentPower => 6
  | .rdM2ScaledPower => 6
  | .rdM2CurrentRate => 6
  | .rdM2Encoder => 6
  | .rdM2Current => 6
  | .rdM2PidP => 6
  | .rdM2PidI => 6
  | .rdM2PidD => 6
  | .rdPidKp => 6
  | .rdPidKi => 6
  | .rdPidKd => 6
  | .rdRampingRate => 6
  | .rdMinPower => 6
  | .rdBusAddress => 6

/-- A request placed before the first pending one of the same rank or a lower one. -/
def insertPending (i : Instr) : List Instr → List Instr
  | [] => [i]
  | j :: rest => if rank i ≤ rank j then i :: j :: rest else j :: insertPending i rest

/-- The order in which requests pending together are handled; requests of one rank keep their own order, as the
bytes of one transaction do (R367). -/
def serialise : List Instr → List Instr
  | [] => []
  | i :: rest => insertPending i (serialise rest)

end Sys2Proof.Machine
end

