-- ==== Sys2Proof/Machine/Trace.lean ====
section
/-! DEFINITION. Runs (spec/00_scope.md R16, spec/20_memory.md R84) and the notation for them
(spec/30_encoding.md R101, R103, R104, R119, R120). -/

namespace Sys2Proof.Machine

/-- A run: each operation on the state the one before it left (R16, R84). -/
def runAll : List Instr → State → Result
  | [], s => .next s
  | i :: rest, s => andThen (exec i s) (runAll rest)

/-- The line `W b0 b1 … bn`: a write transaction with these bytes (R101, R119). -/
def lineW (bytes : List Byte) : List Instr :=
  .startW :: (bytes.map .rx ++ [.endW])

/-- The line `R`: a read transaction (R103, R119). -/
def lineR : List Instr :=
  [.req]

/-- `SEL`: a bare selection (R120). -/
def lineSel (addr : Byte) : List Instr :=
  lineW [addr]

/-- `RD`: a selection, then a read (R120). -/
def lineRd (addr : Byte) : List Instr :=
  lineSel addr ++ lineR

/-- `BURST`: one transaction with the fields concatenated, each in its own width (R104, R120). -/
def lineBurst (addr : Byte) (fields : List (List Byte)) : List Instr :=
  lineW (addr :: fields.flatten)

/-- `SAVE` (R120). -/
def lineSave (selector : Byte) : List Instr :=
  lineW [0x31, selector]

/-- `LOAD` (R120). -/
def lineLoad : List Instr :=
  lineW [0x32]

/-- `RESET` (R120). -/
def lineReset : List Instr :=
  lineW [0x33]

/-- The `encoding` column of the opcode table: the events an operation is made of (R101 to R103). -/
def eventsOf : Instr → List Instr
  | .wrM1Control v => lineW [0x00, v]
  | .wrM1Power v => lineW [0x01, v]
  | .wrM1TargetRate v => lineW (0x02 :: be2 v)
  | .wrM2Control v => lineW [0x10, v]
  | .wrM2Power v => lineW [0x11, v]
  | .wrM2TargetRate v => lineW (0x12 :: be2 v)
  | .wrPidKp f => lineW (0x20 :: be4 f)
  | .wrPidKi f => lineW (0x21 :: be4 f)
  | .wrPidKd f => lineW (0x22 :: be4 f)
  | .wrRampingRate v => lineW [0x23, v]
  | .wrMinPower v => lineW [0x24, v]
  | .wrBusAddress v => lineW [0x30, v]
  | .wrSettingsSave v => lineW [0x31, v]
  | .wrSettingsLoad => lineW [0x32]
  | .wrSoftReset => lineW [0x33]
  | .rdM1Control => lineRd 0x00
  | .rdM1Power => lineRd 0x01
  | .rdM1TargetRate => lineRd 0x02
  | .rdM1CurrentPower => lineRd 0x03
  | .rdM1ScaledPower => lineRd 0x04
  | .rdM1CurrentRate => lineRd 0x05
  | .rdM1Encoder => lineRd 0x06
  | .rdM1Current => lineRd 0x07
  | .rdM1PidP => lineRd 0x08
  | .rdM1PidI => lineRd 0x09
  | .rdM1PidD => lineRd 0x0A
  | .rdM2Control => lineRd 0x10
  | .rdM2Power => lineRd 0x11
  | .rdM2TargetRate => lineRd 0x12
  | .rdM2CurrentPower => lineRd 0x13
  | .rdM2ScaledPower => lineRd 0x14
  | .rdM2CurrentRate => lineRd 0x15
  | .rdM2Encoder => lineRd 0x16
  | .rdM2Current => lineRd 0x17
  | .rdM2PidP => lineRd 0x18
  | .rdM2PidI => lineRd 0x19
  | .rdM2PidD => lineRd 0x1A
  | .rdPidKp => lineRd 0x20
  | .rdPidKi => lineRd 0x21
  | .rdPidKd => lineRd 0x22
  | .rdRampingRate => lineRd 0x23
  | .rdMinPower => lineRd 0x24
  | .rdBusAddress => lineRd 0x30
  | .por => [.por]
  | .wdt => [.wdt]
  | .tick => [.tick]
  | .enc m b => [.enc m b]
  | .adc v => [.adc v]
  | .startW => [.startW]
  | .rx b => [.rx b]
  | .endW => [.endW]
  | .req => [.req]

end Sys2Proof.Machine
end

