-- ==== Sys2Proof/Safety.lean ====
section
/-! DEFINITION. What holds between events (spec/10_state.md R53, spec/46_output_stage.md R338), what a safe step
is, and the words the statements use for a finished transaction. -/

namespace Sys2Proof.Machine

/-- R53 (b): the reserved bits of a control byte read as 0. -/
abbrev MotorRegs.ReservedClear (m : MotorRegs) : Prop :=
  m.control.extractLsb' 6 2 = 0

/-- R53 (c): outside RATE mode the PID terms are +0.0. -/
abbrev MotorRegs.TermsClear (m : MotorRegs) : Prop :=
  m.mode ≠ .rate → m.pidP = 0 ∧ m.pidI = 0 ∧ m.pidD = 0

/-- R53 (g) and R338: the drive mode goes with the duty, and the duty is the commanded power. -/
abbrev MotorRegs.OutputOk (m : MotorRegs) : Prop :=
  (m.outMode = .full ↔ m.outDuty = 255) ∧
  ((m.outMode = .float ∨ m.outMode = .brake) ↔ m.outDuty = 0) ∧
  m.outDuty = m.currentPower

/-- R11, R355: a recorded conversion result has `ADC_BITS` bits. -/
abbrev MotorRegs.DrawOk (m : MotorRegs) (p : Params) : Prop :=
  m.currentDraw.toNat < 2 ^ p.adcBits

/-- What holds of one motor's registers between events. -/
abbrev MotorRegs.Inv (m : MotorRegs) (p : Params) : Prop :=
  m.ReservedClear ∧ m.TermsClear ∧ m.OutputOk ∧ m.DrawOk p

/-- R53 (e): in the data phase the active address is a writable register with room for a further byte, and
nothing is staged while an advance is pending; in the other phases nothing is staged and none is pending. -/
def BusRegs.stagingOk (b : BusRegs) : Bool :=
  match b.rxPhase with
  | .data =>
    match regAt b.activeAddr with
    | some r => r.writable && decide (b.stage.length < r.width) && (b.stage.isEmpty || !b.advPending)
    | none => false
  | .idle => b.stage.isEmpty && !b.advPending
  | .addr => b.stage.isEmpty && !b.advPending
  | .discard => b.stage.isEmpty && !b.advPending

/-- R53 (d), (e), (f). -/
abbrev BusRegs.Inv (b : BusRegs) : Prop :=
  mapped b.activeAddr = true ∧ b.stagingOk = true ∧ b.updated.getLsbD 15 = false

/-- The invariant of R53 with R338; R53 (a) holds by the width of the registers. -/
abbrev State.Inv (s : State) : Prop :=
  s.m1.Inv s.params ∧ s.m2.Inv s.params ∧ s.tun.busAddress.getLsbD 7 = false ∧ s.bus.Inv

/-- A step that does not fault (R118: no encoding makes the hardware fault or stop). -/
def SafeStep (s : State) : Prop :=
  ∀ r, step s ≠ .fault r

/-- Neither of the two reset events. -/
def NotReset (i : Instr) : Prop :=
  i ≠ .por ∧ i ≠ .wdt

/-- A running core on which no earlier transaction was left without its end (R183): no `updated` bit waits. -/
abbrev State.Ready (s : State) : Prop :=
  s.run = .running ∧ s.bus.updated = 0

/-- The protocol registers after a transaction whose last accepted register is at `addr` (R180). -/
def State.ended (s : State) (addr : Byte) : State :=
  { s with bus :=
      { s.bus with
        activeAddr := addr
        rxPhase := .idle
        stage := []
        advPending := false
        updated := 0 } }

/-- The first address of motor `i`'s registers plus an offset, as a bus byte (R110). -/
def motorAddr (i : MotorId) (r : MotorReg) : Byte :=
  (Reg.motor i r).addr

/-- `n` ticks of one motor (R292). -/
def MotorRegs.ticks (t : Tunables) (p : Params) : Nat → MotorRegs → MotorRegs
  | 0, m => m
  | n + 1, m => MotorRegs.ticks t p n (m.tick t p)

/-- What a written field reads back as: a control byte without bits 7:6, a bus address without bit 7, any other
field unchanged (R106, R117). -/
def storedField : Reg → List Byte → List Byte
  | .motor _ .control, bytes => bytes.map asControl
  | .busAddress, bytes => bytes.map asBusAddress
  | _, bytes => bytes

/-- A read block: the bytes of a field, then zeros up to four (R76). -/
def paddedBlock (bytes : List Byte) : ReadBlock :=
  ⟨bytes.getD 0 0, bytes.getD 1 0, bytes.getD 2 0, bytes.getD 3 0⟩

/-- A finite binary32 pattern (R146). -/
abbrev IsFinite (a : F32) : Prop :=
  expOf a ≠ 255

/-- The least magnitude, in units of 2^-149, that roundTiesToEven takes to infinity: the largest finite value and
half its last place (R147). -/
def overflowBound : Nat :=
  (2 ^ 25 - 1) * 2 ^ 252

/-- `c` is the exact value `num / den`, in units of 2^-149, rounded once to nearest with ties to the even
fraction, too large magnitudes becoming infinity of the right sign (R147). -/
def RoundedOnce (c : F32) (num : Int) (den : Nat) : Prop :=
  if den * overflowBound ≤ num.natAbs then c = infinity (decide (num < 0))
  else IsFinite c ∧ ∀ x : F32, IsFinite x →
    (valueOf c * den - num).natAbs ≤ (valueOf x * den - num).natAbs ∧
    ((valueOf c * den - num).natAbs = (valueOf x * den - num).natAbs →
      valueOf x = valueOf c ∨ c.getLsbD 0 = false)

end Sys2Proof.Machine
end

