-- ==== Sys2Proof/Certificates/Slice0/Obligations.lean ====
section
/-! DEFINITION. The statements for the provers. Each says in its docstring which rule of spec/ it formalises, and
names the log entry where it rests on a choice of the model. "Ready" is a running core with no `updated` bit
left by an unfinished transaction (R183); `State.ended a` is the protocol state after a transaction whose last
accepted register is at `a` (R180). -/

open Sys2Proof Sys2Proof.Machine

/-- R16, R365: a run applies the handler of each event in order. The input trace in the state, the idle step and the refusal are the model's choice (notes/assumptions/1.md, 10.md). -/
def Obligations.StepRunsDecodedOperation : Prop :=
  (∀ (s : State) (i : Instr) (rest : List Byte),
    decode s.input = .ok (i, rest) → step s = exec i { s with input := rest }) ∧
  (∀ s : State, s.input = [] → step s = .next s) ∧
  ∀ (s : State) (e : DecodeError), s.input ≠ [] → decode s.input = .error e →
    step s = .refused (.malformedTrace e)

/-- R102, R110, R121: the formats of every row. The class tags are the model's choice (notes/assumptions/3.md). -/
def Obligations.DecodeInvertsEncode : Prop :=
  ∀ (i : Instr) (rest : List Byte), i.WellFormed → decode (encode i ++ rest) = .ok (i, rest)

/-- R110, R121: the encodings. That other byte strings (unknown codes, set bits 7:2 of an `ENC` operand) are refused, on which R121 is silent, is the model's choice (notes/assumptions/10.md), and so are the class tags (notes/assumptions/3.md). -/
def Obligations.EncodeInvertsDecode : Prop :=
  ∀ (bytes : List Byte) (i : Instr) (rest : List Byte),
    decode bytes = .ok (i, rest) → i.WellFormed ∧ bytes = encode i ++ rest

/-- R121 and the byte strings of spec/95_test_vectors.md section 5; the class tags are the model's choice (notes/assumptions/3.md). -/
def Obligations.WordsOfTheSpecDecode : Prop :=
  decode [0x01] = .ok (.wdt, []) ∧
  decode [0x02, 0x02] = .ok (.tick, [0x02]) ∧
  decode [0x03, 0x03] = .ok (.enc .m2 true, []) ∧
  decode [0x04, 0x01, 0x23] = .ok (.adc 291, []) ∧
  decode [0x06, 0xC8, 0x07] = .ok (.rx 0xC8, [0x07]) ∧
  decode [0x08] = .ok (.req, []) ∧
  decode [0x57, 0x02, 0x00, 0x64] = .ok (.wrM1TargetRate 0x0064, []) ∧
  decode [0x52, 0x16, 0x08] = .ok (.rdM2Encoder, [0x08])

/-- R100 to R103: bus operations are sequences of transport events (notes/assumptions/4.md). -/
def Obligations.RowIsItsTransaction : Prop :=
  ∀ (i : Instr) (s : State), exec i s = runAll (eventsOf i) s

/-- R171. -/
def Obligations.StartWriteOpensTransaction : Prop :=
  ∀ s : State, s.run = .running →
    exec .startW s =
      .next { s with bus := { s.bus with rxPhase := .addr, stage := [], advPending := false } }

/-- R172. -/
def Obligations.AddressByteSelectsRegister : Prop :=
  ∀ (s : State) (b : Byte), s.run = .running → s.bus.rxPhase = .addr →
    (regAt b = none →
      exec (.rx b) s = .next { s with bus := { s.bus with rxPhase := .discard } }) ∧
    (b = 0x32 →
      exec (.rx b) s = .next { s with bus :=
        { s.bus with activeAddr := b, rxPhase := .discard, updated := s.bus.updated ||| 0x2000 } }) ∧
    (b = 0x33 →
      exec (.rx b) s = .next { s with bus :=
        { s.bus with activeAddr := b, rxPhase := .discard, updated := s.bus.updated ||| 0x4000 } }) ∧
    (∀ r : Reg, regAt b = some r → b ≠ 0x32 → b ≠ 0x33 →
      (r.access ≠ .readOnly →
        exec (.rx b) s = .next { s with bus := { s.bus with activeAddr := b, rxPhase := .data } }) ∧
      (r.access = .readOnly →
        exec (.rx b) s = .next { s with bus := { s.bus with activeAddr := b, rxPhase := .discard } }))

/-- R173. -/
def Obligations.NextByteAdvancesActiveAddress : Prop :=
  ∀ (s : State) (b : Byte), s.run = .running → s.bus.rxPhase = .data → s.bus.advPending = true →
    (dataWritable s.bus.activeAddr = true → dataWritable (s.bus.activeAddr + 1) = true →
      exec (.rx b) s = exec (.rx b) { s with bus :=
        { s.bus with advPending := false, activeAddr := s.bus.activeAddr + 1 } }) ∧
    (¬(dataWritable s.bus.activeAddr = true ∧ dataWritable (s.bus.activeAddr + 1) = true) →
      exec (.rx b) s = .next { s with bus :=
        { s.bus with advPending := false, rxPhase := .discard } })

/-- R174. -/
def Obligations.ValueByteIsStagedOrCommits : Prop :=
  ∀ (s : State) (b : Byte) (r : Reg), s.run = .running → s.bus.rxPhase = .data →
    s.bus.advPending = false → regAt s.bus.activeAddr = some r →
    (s.bus.stage.length + 1 < r.width →
      exec (.rx b) s = .next { s with bus := { s.bus with stage := s.bus.stage ++ [b] } }) ∧
    (s.bus.stage.length + 1 = r.width →
      ∀ (s1 : State) (k : Nat), s.writeReg (fromBE (s.bus.stage ++ [b])) r = some s1 →
        r.updatedBit = some k →
        exec (.rx b) s = .next { s1 with bus :=
          { s1.bus with
            stage := []
            advPending := true
            updated := s1.bus.updated ||| (1#16 <<< k) } })

/-- R175. -/
def Obligations.BytesOutsideAFieldAreDropped : Prop :=
  ∀ (s : State) (b : Byte), s.run = .running →
    s.bus.rxPhase = .discard ∨ s.bus.rxPhase = .idle → exec (.rx b) s = .next s

/-- R180. -/
def Obligations.EndWriteRunsPendingWorkInOrder : Prop :=
  ∀ s : State, s.run = .running →
    let u := s.bus.updated
    let s0 := { s with bus :=
      { s.bus with rxPhase := .idle, stage := [], advPending := false, updated := 0 } }
    let s1 := if u.getLsbD 0 || u.getLsbD 1 || u.getLsbD 10 then s0.update .m1 else s0
    let s2 := if u.getLsbD 3 || u.getLsbD 4 || u.getLsbD 10 then s1.update .m2 else s1
    let s3 := if u.getLsbD 12 then s2.save s.bus.saveSelector else s2
    let s4 := if u.getLsbD 13 then s3.load else s3
    exec .endW s = .next (if u.getLsbD 14 then { s4 with run := .halted } else s4)

/-- R181, R75: no field applied, bitmap untouched. -/
def Obligations.PartialFieldIsNotApplied : Prop :=
  ∀ (s : State) (r : Reg) (bytes : List Byte), s.Ready → r.access ≠ .readOnly →
    bytes.length < r.width →
    runAll (lineW (r.addr :: bytes)) s = .next (s.ended r.addr)

/-- R115, R116, and R176, which the spec derives from R172 and R173. -/
def Obligations.ReadOnlyAndUnmappedWritesAreDropped : Prop :=
  ∀ (s : State) (bytes : List Byte), s.Ready →
    (∀ r : Reg, r.access = .readOnly →
      runAll (lineW (r.addr :: bytes)) s = .next (s.ended r.addr)) ∧
    (∀ a : Byte, regAt a = none →
      runAll (lineW (a :: bytes)) s = .next (s.ended s.bus.activeAddr))

/-- R185, R76 and R249 for the write-only addresses, R395; the read-block field is the model's choice (notes/assumptions/6.md). -/
def Obligations.RequestAnswersTheActiveRegister : Prop :=
  ∀ s : State,
    (s.run = .running → mapped s.bus.activeAddr = true →
      ∃ block, s.memRead s.bus.activeAddr = some block ∧
        exec .req s = .next { s with readBlock := some block }) ∧
    (s.run = .running →
      s.bus.activeAddr = 0x31 ∨ s.bus.activeAddr = 0x32 ∨ s.bus.activeAddr = 0x33 →
      exec .req s = .next { s with readBlock := some (ReadBlock.mk 0x00 0x00 0x00 0x00) }) ∧
    (s.run = .halted → exec .req s = .next { s with readBlock := none })

/-- R104 with R173, R174, R180, R200. -/
def Obligations.MotorBurstWritesThreeRegisters : Prop :=
  ∀ (s : State) (i : MotorId) (c p : Byte) (t : Half), s.Ready →
    runAll (lineBurst (motorAddr i .control) [[c], [p], be2 t]) s =
      .next ((s.mapMotor i (fun m =>
        MotorRegs.update { m.commitControl c with setPower := p, targetRate := t }
          s.tun.minPower)).ended (motorAddr i .targetRate))

/-- R186, which the spec derives from R172, R174 and R185, with the reserved bits of R117. -/
def Obligations.WriteThenReadReturnsTheField : Prop :=
  ∀ (s : State) (r : Reg) (bytes : List Byte), s.Ready → r.access = .readWrite →
    bytes.length = r.width →
    ∃ t, runAll (lineW (r.addr :: bytes) ++ lineRd r.addr) s = .next t ∧
      t.readBlock = some (paddedBlock (storedField r bytes))

/-- R201, R204. -/
def Obligations.ControlWriteCommitsAndUpdates : Prop :=
  ∀ (s : State) (v : Byte), s.Ready →
    exec (.wrM1Control v) s =
      .next (State.ended { s with m1 := (s.m1.commitControl v).update s.tun.minPower } 0x00) ∧
    exec (.wrM2Control v) s =
      .next (State.ended { s with m2 := (s.m2.commitControl v).update s.tun.minPower } 0x10)

/-- R202, R205. -/
def Obligations.PowerWriteSetsRequestAndUpdates : Prop :=
  ∀ (s : State) (v : Byte), s.Ready →
    (exec (.wrM1Power v) s =
      .next (State.ended { s with m1 := MotorRegs.update { s.m1 with setPower := v } s.tun.minPower } 0x01) ∧
     exec (.wrM2Power v) s =
      .next (State.ended { s with m2 := MotorRegs.update { s.m2 with setPower := v } s.tun.minPower } 0x11)) ∧
    ∀ m : MotorRegs,
      (MotorRegs.update { m with setPower := v } s.tun.minPower).setPower = v ∧
      (MotorRegs.update { m with setPower := v } s.tun.minPower).scaledPower = rescale s.tun.minPower v ∧
      (MotorRegs.update { m with setPower := v } s.tun.minPower).currentPower =
        if m.mode = Mode.direct then rescale s.tun.minPower v else m.currentPower

/-- R203, R206. -/
def Obligations.TargetRateWriteStoresOnly : Prop :=
  ∀ (s : State) (v : Half), s.Ready →
    exec (.wrM1TargetRate v) s =
      .next (State.ended { s with m1 := { s.m1 with targetRate := v } } 0x02) ∧
    exec (.wrM2TargetRate v) s =
      .next (State.ended { s with m2 := { s.m2 with targetRate := v } } 0x12)

/-- R207, R208, R209. -/
def Obligations.GainWriteStoresPatternUnchanged : Prop :=
  ∀ (s : State) (f : F32), s.Ready →
    exec (.wrPidKp f) s = .next (State.ended { s with tun := { s.tun with kP := f } } 0x20) ∧
    exec (.wrPidKi f) s = .next (State.ended { s with tun := { s.tun with kI := f } } 0x21) ∧
    exec (.wrPidKd f) s = .next (State.ended { s with tun := { s.tun with kD := f } } 0x22)

/-- R210, R211. -/
def Obligations.RampingRateAndMinPowerWrites : Prop :=
  ∀ (s : State) (v : Byte), s.Ready →
    exec (.wrRampingRate v) s =
      .next (State.ended { s with tun := { s.tun with rampingRate := v } } 0x23) ∧
    exec (.wrMinPower v) s =
      .next (State.ended
        { s with m1 := s.m1.update v, m2 := s.m2.update v, tun := { s.tun with minPower := v } } 0x24)

/-- R260. -/
def Obligations.BusAddressWriteDropsBitSeven : Prop :=
  ∀ (s : State) (v : Byte), s.Ready →
    exec (.wrBusAddress v) s =
      .next (State.ended { s with tun := { s.tun with busAddress := BitVec.ofNat 8 (v.toNat % 128) } } 0x30)

/-- R264, R266 with the groups of R263. -/
def Obligations.SettingsSaveWritesSelectedSlots : Prop :=
  ∀ (s : State) (v : Byte), s.Ready →
    ∃ nv' : NvStore,
      exec (.wrSettingsSave v) s =
        .next (State.ended { s with nv := nv', bus := { s.bus with saveSelector := v } } 0x31) ∧
      (v &&& 0x3F = 0 → nv' = s.nv) ∧
      (v &&& 0x3F ≠ 0 →
        nv'.mask = (if s.nv.mask.getLsbD 7 then 0 else s.nv.mask &&& 0x3F) ||| (v &&& 0x3F) ∧
        nv'.m1Control = (if v.getLsbD 0 then s.m1.control &&& 0x1F else s.nv.m1Control) ∧
        nv'.m2Control = (if v.getLsbD 1 then s.m2.control &&& 0x1F else s.nv.m2Control) ∧
        nv'.rampingRate = (if v.getLsbD 2 then s.tun.rampingRate else s.nv.rampingRate) ∧
        nv'.minPower = (if v.getLsbD 3 then s.tun.minPower else s.nv.minPower) ∧
        nv'.busAddress = (if v.getLsbD 4 then s.tun.busAddress else s.nv.busAddress) ∧
        nv'.kP = (if v.getLsbD 5 then s.tun.kP else s.nv.kP) ∧
        nv'.kI = (if v.getLsbD 5 then s.tun.kI else s.nv.kI) ∧
        nv'.kD = (if v.getLsbD 5 then s.tun.kD else s.nv.kD))

/-- R267, R268 with the groups of R263. -/
def Obligations.SettingsLoadReplacesEveryTunable : Prop :=
  ∀ s : State, s.Ready →
    let g : Byte := if s.nv.mask.getLsbD 7 then 0 else s.nv.mask &&& 0x3F
    let c1 : Byte := if g.getLsbD 0 then s.nv.m1Control &&& 0x1F else s.params.defControl
    let c2 : Byte := if g.getLsbD 1 then s.nv.m2Control &&& 0x1F else s.params.defControl
    let tun : Tunables :=
      { kP := if g.getLsbD 5 then s.nv.kP else s.params.defKP
        kI := if g.getLsbD 5 then s.nv.kI else s.params.defKI
        kD := if g.getLsbD 5 then s.nv.kD else s.params.defKD
        rampingRate := if g.getLsbD 2 then s.nv.rampingRate else s.params.defRampingRate
        minPower := if g.getLsbD 3 then s.nv.minPower else s.params.defMinPower
        busAddress :=
          if g.getLsbD 4 then s.nv.busAddress &&& 0x7F else s.params.defBusAddress.zeroExtend 8 }
    exec .wrSettingsLoad s =
      .next (State.ended
        { s with
          m1 := (s.m1.commitControl (c1 ||| (s.m1.control &&& 0x20))).update tun.minPower
          m2 := (s.m2.commitControl (c2 ||| (s.m2.control &&& 0x20))).update tun.minPower
          tun := tun } 0x32)

/-- R270. -/
def Obligations.SoftResetHaltsAndHoldsEverything : Prop :=
  ∀ s : State, s.Ready →
    exec .wrSoftReset s = .next (State.ended { s with run := .halted } 0x33)

/-- R200, with the flag positions of R112 and the mode decoding of R291. -/
def Obligations.ControlCommitClearsOnModeSwitch : Prop :=
  (∀ c : Byte,
    speedFlag c = c.getLsbD 0 ∧ modeFlag c = c.getLsbD 1 ∧ encoderFlag c = c.getLsbD 2 ∧
    brakeFlag c = c.getLsbD 3 ∧ directionFlag c = c.getLsbD 4 ∧ newCurrentFlag c = c.getLsbD 5 ∧
    modeOf c =
      if c.getLsbD 0 = true then if c.getLsbD 1 = true then .rate else .ramp else .direct) ∧
  (∀ m : MotorRegs, m.mode = modeOf m.control) ∧
  ∀ (m : MotorRegs) (v : Byte),
    m.commitControl v =
      { m with
        control := v &&& 0x3F
        pidP := if modeOf v = m.mode then m.pidP else 0
        pidI := if modeOf v = m.mode then m.pidI else 0
        pidD := if modeOf v = m.mode then m.pidD else 0
        targetRate := if modeOf v = m.mode then m.targetRate else 0 }

/-- R220 to R231. -/
def Obligations.MotorOneReadsAnswerTheirRegisters : Prop :=
  ∀ s : State, s.Ready →
    exec .rdM1Control s = .next { s.ended 0x00 with
      readBlock := some (ReadBlock.mk s.m1.control 0x00 0x00 0x00) } ∧
    exec .rdM1Power s = .next { s.ended 0x01 with
      readBlock := some (ReadBlock.mk s.m1.setPower 0x00 0x00 0x00) } ∧
    exec .rdM1TargetRate s = .next { s.ended 0x02 with
      readBlock := some (ReadBlock.mk (s.m1.targetRate.extractLsb' 8 8) (s.m1.targetRate.extractLsb' 0 8) 0x00 0x00) } ∧
    exec .rdM1CurrentPower s = .next { s.ended 0x03 with
      readBlock := some (ReadBlock.mk s.m1.currentPower 0x00 0x00 0x00) } ∧
    exec .rdM1ScaledPower s = .next { s.ended 0x04 with
      readBlock := some (ReadBlock.mk s.m1.scaledPower 0x00 0x00 0x00) } ∧
    exec .rdM1CurrentRate s = .next { s.ended 0x05 with
      readBlock := some (ReadBlock.mk (s.m1.currentRate.extractLsb' 8 8) (s.m1.currentRate.extractLsb' 0 8) 0x00 0x00) } ∧
    exec .rdM1Encoder s = .next { s.ended 0x06 with
      readBlock := some (ReadBlock.mk (s.m1.encoderValue.extractLsb' 24 8) (s.m1.encoderValue.extractLsb' 16 8)
        (s.m1.encoderValue.extractLsb' 8 8) (s.m1.encoderValue.extractLsb' 0 8)) } ∧
    exec .rdM1Current s = .next { s.ended 0x07 with
      readBlock := some (ReadBlock.mk (s.m1.currentDraw.extractLsb' 8 8) (s.m1.currentDraw.extractLsb' 0 8) 0x00 0x00) } ∧
    exec .rdM1PidP s = .next { s.ended 0x08 with
      readBlock := some (ReadBlock.mk (s.m1.pidP.extractLsb' 24 8) (s.m1.pidP.extractLsb' 16 8)
        (s.m1.pidP.extractLsb' 8 8) (s.m1.pidP.extractLsb' 0 8)) } ∧
    exec .rdM1PidI s = .next { s.ended 0x09 with
      readBlock := some (ReadBlock.mk (s.m1.pidI.extractLsb' 24 8) (s.m1.pidI.extractLsb' 16 8)
        (s.m1.pidI.extractLsb' 8 8) (s.m1.pidI.extractLsb' 0 8)) } ∧
    exec .rdM1PidD s = .next { s.ended 0x0A with
      readBlock := some (ReadBlock.mk (s.m1.pidD.extractLsb' 24 8) (s.m1.pidD.extractLsb' 16 8)
        (s.m1.pidD.extractLsb' 8 8) (s.m1.pidD.extractLsb' 0 8)) }

/-- R220, R232 to R242. -/
def Obligations.MotorTwoReadsAnswerTheirRegisters : Prop :=
  ∀ s : State, s.Ready →
    exec .rdM2Control s = .next { s.ended 0x10 with
      readBlock := some (ReadBlock.mk s.m2.control 0x00 0x00 0x00) } ∧
    exec .rdM2Power s = .next { s.ended 0x11 with
      readBlock := some (ReadBlock.mk s.m2.setPower 0x00 0x00 0x00) } ∧
    exec .rdM2TargetRate s = .next { s.ended 0x12 with
      readBlock := some (ReadBlock.mk (s.m2.targetRate.extractLsb' 8 8) (s.m2.targetRate.extractLsb' 0 8) 0x00 0x00) } ∧
    exec .rdM2CurrentPower s = .next { s.ended 0x13 with
      readBlock := some (ReadBlock.mk s.m2.currentPower 0x00 0x00 0x00) } ∧
    exec .rdM2ScaledPower s = .next { s.ended 0x14 with
      readBlock := some (ReadBlock.mk s.m2.scaledPower 0x00 0x00 0x00) } ∧
    exec .rdM2CurrentRate s = .next { s.ended 0x15 with
      readBlock := some (ReadBlock.mk (s.m2.currentRate.extractLsb' 8 8) (s.m2.currentRate.extractLsb' 0 8) 0x00 0x00) } ∧
    exec .rdM2Encoder s = .next { s.ended 0x16 with
      readBlock := some (ReadBlock.mk (s.m2.encoderValue.extractLsb' 24 8) (s.m2.encoderValue.extractLsb' 16 8)
        (s.m2.encoderValue.extractLsb' 8 8) (s.m2.encoderValue.extractLsb' 0 8)) } ∧
    exec .rdM2Current s = .next { s.ended 0x17 with
      readBlock := some (ReadBlock.mk (s.m2.currentDraw.extractLsb' 8 8) (s.m2.currentDraw.extractLsb' 0 8) 0x00 0x00) } ∧
    exec .rdM2PidP s = .next { s.ended 0x18 with
      readBlock := some (ReadBlock.mk (s.m2.pidP.extractLsb' 24 8) (s.m2.pidP.extractLsb' 16 8)
        (s.m2.pidP.extractLsb' 8 8) (s.m2.pidP.extractLsb' 0 8)) } ∧
    exec .rdM2PidI s = .next { s.ended 0x19 with
      readBlock := some (ReadBlock.mk (s.m2.pidI.extractLsb' 24 8) (s.m2.pidI.extractLsb' 16 8)
        (s.m2.pidI.extractLsb' 8 8) (s.m2.pidI.extractLsb' 0 8)) } ∧
    exec .rdM2PidD s = .next { s.ended 0x1A with
      readBlock := some (ReadBlock.mk (s.m2.pidD.extractLsb' 24 8) (s.m2.pidD.extractLsb' 16 8)
        (s.m2.pidD.extractLsb' 8 8) (s.m2.pidD.extractLsb' 0 8)) }

/-- R220, R243 to R248. -/
def Obligations.GlobalReadsAnswerTheirRegisters : Prop :=
  ∀ s : State, s.Ready →
    exec .rdPidKp s = .next { s.ended 0x20 with
      readBlock := some (ReadBlock.mk (s.tun.kP.extractLsb' 24 8) (s.tun.kP.extractLsb' 16 8)
        (s.tun.kP.extractLsb' 8 8) (s.tun.kP.extractLsb' 0 8)) } ∧
    exec .rdPidKi s = .next { s.ended 0x21 with
      readBlock := some (ReadBlock.mk (s.tun.kI.extractLsb' 24 8) (s.tun.kI.extractLsb' 16 8)
        (s.tun.kI.extractLsb' 8 8) (s.tun.kI.extractLsb' 0 8)) } ∧
    exec .rdPidKd s = .next { s.ended 0x22 with
      readBlock := some (ReadBlock.mk (s.tun.kD.extractLsb' 24 8) (s.tun.kD.extractLsb' 16 8)
        (s.tun.kD.extractLsb' 8 8) (s.tun.kD.extractLsb' 0 8)) } ∧
    exec .rdRampingRate s = .next { s.ended 0x23 with
      readBlock := some (ReadBlock.mk s.tun.rampingRate 0x00 0x00 0x00) } ∧
    exec .rdMinPower s = .next { s.ended 0x24 with
      readBlock := some (ReadBlock.mk s.tun.minPower 0x00 0x00 0x00) } ∧
    exec .rdBusAddress s = .next { s.ended 0x30 with
      readBlock := some (ReadBlock.mk s.tun.busAddress 0x00 0x00 0x00) }

/-- R290. -/
def Obligations.TickRunsBothMotors : Prop :=
  ∀ s : State,
    (s.run = .running →
      exec .tick s = .next { s with m1 := s.m1.tick s.tun s.params, m2 := s.m2.tick s.tun s.params }) ∧
    (s.run = .halted → exec .tick s = .next s)

/-- R295, R296. -/
def Obligations.TickMeasuresTheRate : Prop :=
  ∀ (m : MotorRegs) (t : Tunables) (p : Params),
    (encoderFlag m.control = true →
      (m.tick t p).currentRate =
        rateOf p (Int.bmod (m.encoderValue.toInt - m.oldEnc.toInt) (2 ^ 32)) ∧
      (m.tick t p).oldEnc = m.encoderValue) ∧
    (encoderFlag m.control = false →
      (m.tick t p).currentRate = m.currentRate ∧ (m.tick t p).oldEnc = m.oldEnc) ∧
    ∀ delta : Int, rateOf p delta =
      f2i16 (fmul (fmul (fmul (fdiv (i2f delta) (i2f p.ticksPerRev)) (i2f p.refreshHz)) 0x42700000)
        p.rateScale)

/-- R300, R301: every RATE-mode tick recomputes all three terms. -/
def Obligations.RateTickComputesThePidTerms : Prop :=
  ∀ (m : MotorRegs) (t : Tunables) (p : Params), m.mode = .rate →
    let r := (m.tick t p).currentRate.toInt
    (m.tick t p).pidP = fmul t.kP (i2f m.targetRate.toInt) ∧
    (m.tick t p).pidI = fadd m.pidI (fmul t.kI (i2f (m.targetRate.toInt - r))) ∧
    (m.tick t p).pidD = fmul t.kD (i2f (m.currentRate.toInt - r))

/-- R302, and R429, which the spec derives from it; what fabs gives is said in RateTickDirectionFollowsTheSum (R148), what f2u8 gives in ConversionRoundsAwayAndSaturates (R150). -/
def Obligations.RateTickPowerHasTheFloor : Prop :=
  ∀ (m : MotorRegs) (t : Tunables) (p : Params), m.mode = .rate →
    let m' := m.tick t p
    m'.currentPower.toNat =
      max (f2u8 (fabs (fadd (fadd m'.pidP m'.pidI) m'.pidD))).toNat t.minPower.toNat ∧
    t.minPower.toNat ≤ m'.currentPower.toNat

/-- R303, with the comparison and the absolute value of R148. -/
def Obligations.RateTickDirectionFollowsTheSum : Prop :=
  (∀ a b : F32, flt a b = true ↔
    isNaN a = false ∧ isNaN b = false ∧
      ((a = 0xFF800000 ∧ b ≠ 0xFF800000) ∨ (b = 0x7F800000 ∧ a ≠ 0x7F800000) ∨
        (IsFinite a ∧ IsFinite b ∧ valueOf a < valueOf b))) ∧
  (∀ a : F32, (fabs a).getLsbD 31 = false ∧ ∀ k : Nat, k < 31 → (fabs a).getLsbD k = a.getLsbD k) ∧
  ∀ (m : MotorRegs) (t : Tunables) (p : Params), m.mode = .rate →
    let m' := m.tick t p
    let sum := fadd (fadd m'.pidP m'.pidI) m'.pidD
    (flt 0x00000000 sum = true → directionFlag m'.control = false) ∧
    (flt sum 0x00000000 = true → directionFlag m'.control = true) ∧
    (flt 0x00000000 sum = false → flt sum 0x00000000 = false → m'.control = m.control) ∧
    m'.control &&& 0xEF = m.control &&& 0xEF ∧
    m'.outPol = directionFlag m'.control

/-- R304, which the spec derives from R300: the exact form of the accumulation law, by induction over ticks. -/
def Obligations.IntegralAccumulatesOncePerTick : Prop :=
  ∀ (m : MotorRegs) (t : Tunables) (p : Params), m.mode = .rate → encoderFlag m.control = false →
    ∀ n : Nat,
      (m.ticks t p n).pidI =
        (fun x => fadd x (fmul t.kI (i2f (m.targetRate.toInt - m.currentRate.toInt))))^[n] m.pidI

/-- R309 with R307 and R308. -/
def Obligations.RampTickStepsOrTurns : Prop :=
  ∀ (m : MotorRegs) (t : Tunables) (p : Params), m.mode = .ramp →
    let m' := m.tick t p
    let c := m.currentPower.toNat
    let g := (rescale t.minPower m.setPower).toNat
    m'.scaledPower.toNat = g ∧
    (m.outPol ≠ directionFlag m.control → t.minPower.toNat < c →
      m'.currentPower.toNat = max (c - t.rampingRate.toNat) t.minPower.toNat ∧
      m'.outPol = m.outPol) ∧
    (m.outPol = directionFlag m.control ∨ c ≤ t.minPower.toNat →
      m'.outPol = directionFlag m.control ∧
      m'.currentPower.toNat =
        if c < g then min (c + t.rampingRate.toNat) g
        else if g < c then max (c - t.rampingRate.toNat) g
        else c)

/-- R310, which the spec derives from R308 and R309. -/
def Obligations.RampTickMovesAtMostTheRate : Prop :=
  ∀ (m : MotorRegs) (t : Tunables) (p : Params), m.mode = .ramp →
    (m.tick t p).currentPower.toNat ≤ m.currentPower.toNat + t.rampingRate.toNat ∧
    m.currentPower.toNat ≤ (m.tick t p).currentPower.toNat + t.rampingRate.toNat

/-- R308, and R313 and R427, which the spec derives from R306, R308 and R309: the ramp scenario in general, for every ramping rate, 0 included. -/
def Obligations.RampMovesByTheRateTowardItsTarget : Prop :=
  ∀ (m : MotorRegs) (t : Tunables) (p : Params), m.mode = .ramp →
    m.outPol = directionFlag m.control →
    let c := m.currentPower.toNat
    let g := (rescale t.minPower m.setPower).toNat
    ∀ n : Nat,
      (c ≤ g → (m.ticks t p n).currentPower.toNat = min (c + n * t.rampingRate.toNat) g) ∧
      (g ≤ c → (m.ticks t p n).currentPower.toNat = max (c - n * t.rampingRate.toNat) g)

/-- R312. -/
def Obligations.DirectTickPassesTheRequestThrough : Prop :=
  ∀ (m : MotorRegs) (t : Tunables) (p : Params), m.mode = .direct →
    (m.tick t p).scaledPower = rescale t.minPower m.setPower ∧
    (m.tick t p).currentPower = rescale t.minPower m.setPower ∧
    (m.tick t p).outPol = directionFlag m.control

/-- R292 (its last line is APPLY, R331), and R54, which the spec derives from the handlers: the writers of each register. -/
def Obligations.TickFrame : Prop :=
  ∀ (m : MotorRegs) (t : Tunables) (p : Params),
    (m.tick t p).setPower = m.setPower ∧
    (m.tick t p).targetRate = m.targetRate ∧
    (m.tick t p).encoderValue = m.encoderValue ∧
    (m.tick t p).currentDraw = m.currentDraw ∧
    (m.mode ≠ Mode.rate →
      (m.tick t p).control = m.control ∧ (m.tick t p).pidP = m.pidP ∧
      (m.tick t p).pidI = m.pidI ∧ (m.tick t p).pidD = m.pidD) ∧
    (m.mode = .rate → (m.tick t p).scaledPower = m.scaledPower) ∧
    (m.tick t p).outMode = (m.tick t p).apply.outMode ∧
    (m.tick t p).outDuty = (m.tick t p).apply.outDuty

/-- R320. -/
def Obligations.UpdateIsTheDerivedStatePath : Prop :=
  ∀ (m : MotorRegs) (floor : Byte),
    let d : MotorRegs := { m with
      scaledPower := rescale floor m.setPower
      currentPower := if m.mode = Mode.direct then rescale floor m.setPower else m.currentPower
      outPol := if m.mode = Mode.direct then directionFlag m.control else m.outPol }
    m.update floor = { d with outMode := d.apply.outMode, outDuty := d.apply.outDuty }

/-- R331, R333. -/
def Obligations.ApplyDrivesTheOutput : Prop :=
  ∀ m : MotorRegs,
    let requested : Bool := if m.mode = Mode.rate then m.targetRate != 0 else m.setPower != 0
    m.apply =
      { m with
        outDuty := m.currentPower
        outMode :=
          if m.currentPower = 0 then
            if brakeFlag m.control = true ∧ requested = false then .brake else .float
          else if m.currentPower = 255 then .full
          else .pwm }

/-- R142. -/
def Obligations.RescaleMapsIntoTheUsableRange : Prop :=
  ∀ floor p : Byte,
    (p = 0 → rescale floor p = 0) ∧
    (p ≠ 0 →
      (rescale floor p).toNat = floor.toNat + p.toNat * (255 - floor.toNat) / 255 ∧
      floor.toNat ≤ (rescale floor p).toNat) ∧
    (p = 255 → rescale floor p = 255) ∧
    (p ≠ 0 → p.toNat * (255 - floor.toNat) < 255 → rescale floor p = floor)

/-- R147 for sums and differences, in units of 2^-149; the spec takes R146 and R147 from general knowledge (IEEE 754). The last clause, the sign of a zero difference, is the model's (PRESUMED, notes/assumptions/16.md): R147 gives the sign of a zero sum only. -/
def Obligations.SumIsRoundedOnce : Prop :=
  ∀ a b : F32, IsFinite a → IsFinite b →
    RoundedOnce (fadd a b) (valueOf a + valueOf b) 1 ∧
    (valueOf a + valueOf b = 0 → signOf a ≠ signOf b → fadd a b = 0x00000000) ∧
    RoundedOnce (fsub a b) (valueOf a - valueOf b) 1 ∧
    (valueOf a - valueOf b = 0 → signOf a = signOf b → fsub a b = 0x00000000)

/-- R147 for products, in units of 2^-149; the spec takes R146 and R147 from general knowledge (IEEE 754). -/
def Obligations.ProductIsRoundedOnce : Prop :=
  ∀ a b : F32, IsFinite a → IsFinite b →
    RoundedOnce (fmul a b) (valueOf a * valueOf b) (2 ^ 149) ∧
    signOf (fmul a b) = (signOf a != signOf b)

/-- R147 for quotients, in units of 2^-149; the spec takes R146 and R147 from general knowledge (IEEE 754). -/
def Obligations.QuotientIsRoundedOnce : Prop :=
  ∀ a b : F32, IsFinite a → IsFinite b → valueOf b ≠ 0 →
    RoundedOnce (fdiv a b)
      ((if valueOf b < 0 then -valueOf a else valueOf a) * 2 ^ 149) (valueOf b).natAbs ∧
    signOf (fdiv a b) = (signOf a != signOf b)

/-- R149. -/
def Obligations.IntegerConversionIsRoundedOnce : Prop :=
  (∀ n : Int, n.natAbs ≤ 2 ^ 31 → RoundedOnce (i2f n) (n * 2 ^ 149) 1) ∧
  (∀ n : Int, n.natAbs ≤ 16777216 → IsFinite (i2f n) ∧ valueOf (i2f n) = n * 2 ^ 149) ∧
  i2f 0 = 0x00000000

/-- R147 for NaN, infinity and division by zero; the spec takes R146 and R147 from general knowledge (IEEE 754). -/
def Obligations.SpecialOperandsFollowIeee : Prop :=
  ∀ a b : F32,
    (isNaN a = true ∨ isNaN b = true →
      fadd a b = 0x7FC00000 ∧ fsub a b = 0x7FC00000 ∧ fmul a b = 0x7FC00000 ∧ fdiv a b = 0x7FC00000) ∧
    (isInf a = true → isInf b = true →
      fdiv a b = 0x7FC00000 ∧
      (signOf a = signOf b → fsub a b = 0x7FC00000 ∧ fadd a b = a) ∧
      (signOf a ≠ signOf b → fadd a b = 0x7FC00000 ∧ fsub a b = a) ∧
      fmul a b = infinity (signOf a != signOf b)) ∧
    (isInf a = true → IsFinite b →
      fadd a b = a ∧ fsub a b = a ∧ fdiv a b = infinity (signOf a != signOf b) ∧
      fmul a b = if isZero b then 0x7FC00000 else infinity (signOf a != signOf b)) ∧
    (IsFinite a → isInf b = true →
      fadd a b = b ∧ fsub a b = fneg b ∧ fdiv a b = zero (signOf a != signOf b) ∧
      fmul a b = if isZero a then 0x7FC00000 else infinity (signOf a != signOf b)) ∧
    (IsFinite a → isZero b = true →
      fdiv a b = if isZero a then 0x7FC00000 else infinity (signOf a != signOf b))

/-- R150. -/
def Obligations.ConversionRoundsAwayAndSaturates : Prop :=
  ∀ (a : F32) (lo hi : Int),
    (isNaN a = true → roundSat a lo hi = 0) ∧
    (isInf a = true → signOf a = false → roundSat a lo hi = hi) ∧
    (isInf a = true → signOf a = true → roundSat a lo hi = lo) ∧
    (IsFinite a → ∃ n : Int, roundSat a lo hi = min (max n lo) hi ∧
      2 * (n * 2 ^ 149 - valueOf a).natAbs ≤ 2 ^ 149 ∧
      (2 * (n * 2 ^ 149 - valueOf a).natAbs = 2 ^ 149 →
        (valueOf a).natAbs < (n * 2 ^ 149).natAbs)) ∧
    (f2u8 a).toNat = (roundSat a 0 255).toNat ∧
    (f2i16 a).toInt = roundSat a (-32768) 32767

/-- R345. -/
def Obligations.EdgeCountsByTheCompanionLevel : Prop :=
  (∀ (s : State) (m : MotorId) (b : Bool), s.run = .running →
    exec (.enc m b) s =
      .next (if encoderFlag (s.motor m).control = true then
          s.setMotor m
            { s.motor m with
              encoderValue :=
                BitVec.ofInt 32 ((s.motor m).encoderValue.toInt + (if b then -1 else 1)) }
        else s)) ∧
  ∀ (s : State) (m : MotorId) (b : Bool), s.run = .halted → exec (.enc m b) s = .next s

/-- R355. -/
def Obligations.ConversionGoesToTheSelectedMotor : Prop :=
  (∀ (s : State) (v : Nat), s.run = .running →
    exec (.adc v) s =
      .next { (s.setMotor s.adcChan
          { s.motor s.adcChan with
            currentDraw := BitVec.ofNat 16 (v % 2 ^ s.params.adcBits)
            control := (s.motor s.adcChan).control ||| 0x20 }) with
        adcChan := if s.adcChan = .m1 then .m2 else .m1 }) ∧
  ∀ (s : State) (v : Nat), s.run = .halted → exec (.adc v) s = .next s

/-- R347, R264, R415, and R54 and R176, which the spec derives from its handlers: the table of writers, over all operations. The clauses on `params` and `input`, fields of the model's own that a reset keeps too, are the model's choice (notes/assumptions/1.md, 2.md, 12.md). -/
def Obligations.MeasurementsAndStoreHaveTheirWriters : Prop :=
  ∀ (i : Instr) (s t : State), exec i s = .next t →
    (NotReset i → ∀ m : MotorId, (∀ b, i ≠ .enc m b) →
      (t.motor m).encoderValue = (s.motor m).encoderValue) ∧
    (NotReset i → i ≠ .tick → ∀ m : MotorId,
      (t.motor m).currentRate = (s.motor m).currentRate ∧ (t.motor m).oldEnc = (s.motor m).oldEnc) ∧
    (NotReset i → (∀ v, i ≠ .adc v) →
      t.adcChan = s.adcChan ∧ ∀ m : MotorId, (t.motor m).currentDraw = (s.motor m).currentDraw) ∧
    (s.bus.updated.getLsbD 12 = false → (∀ v, i ≠ .wrSettingsSave v) → t.nv = s.nv) ∧
    t.params = s.params ∧ t.input = s.input

/-- R395: the step function is the identity for all events but two; the read-block field is the model's (notes/assumptions/6.md). -/
def Obligations.HaltedCoreIgnoresEverythingButResets : Prop :=
  ∀ (l : List Instr) (s : State), s.run = .halted → (∀ i ∈ l, NotReset i) →
    ∃ t, runAll l s = .next t ∧ (t = s ∨ t = { s with readBlock := none })

/-- R410, R411, R396; the model's own fields are kept (notes/assumptions/12.md). -/
def Obligations.PorAndWdtAreTheSameFullReset : Prop :=
  ∀ s : State,
    let cleared : State :=
      { s with
        m1 := MotorRegs.cleared
        m2 := MotorRegs.cleared
        bus := BusRegs.cleared
        adcChan := .m1
        run := .running
        tun :=
          { kP := s.params.defKP
            kI := s.params.defKI
            kD := s.params.defKD
            rampingRate := s.params.defRampingRate
            minPower := s.params.defMinPower
            busAddress := s.params.defBusAddress.zeroExtend 8 } }
    exec .por s = .next cleared.load ∧ exec .wdt s = .next cleared.load

/-- R412, which the spec derives from R411, R268 and R55, every register written out; that the model's own fields are kept, and their values at reset, are the model's choice (notes/assumptions/1.md, 2.md, 6.md, 12.md). -/
def Obligations.ResetWithABlankStoreIsTheResetState : Prop :=
  ∀ s : State, s.params = Params.default → s.nv.mask.getLsbD 7 = true →
    let motor : MotorRegs :=
      { control := 0x00
        setPower := 0
        currentPower := 0
        scaledPower := 0
        targetRate := 0
        currentRate := 0
        encoderValue := 0
        oldEnc := 0
        currentDraw := 0
        pidP := 0x00000000
        pidI := 0x00000000
        pidD := 0x00000000
        outMode := .float
        outDuty := 0
        outPol := false }
    let after : State :=
      { m1 := motor
        m2 := motor
        tun :=
          { kP := 0x3F000000
            kI := 0x3CCCCCCD
            kD := 0x3DCCCCCD
            rampingRate := 5
            minPower := 20
            busAddress := 0x10 }
        bus :=
          { activeAddr := 0x00
            rxPhase := .idle
            stage := []
            advPending := false
            updated := 0
            saveSelector := 0 }
        adcChan := .m1
        run := .running
        nv := s.nv
        params := s.params
        input := s.input
        readBlock := s.readBlock }
    exec .por s = .next after ∧ exec .wdt s = .next after ∧
    State.reset = { after with nv := NvStore.blank, params := Params.default, input := [], readBlock := none }

/-- R269 (b) and (c), which the spec derives from R263, R266 and R268. -/
def Obligations.SaveThenLoadKeepsTheSettings : Prop :=
  (∀ s : State, s.Inv →
    let t := (s.save 0x3F).load
    t.tun = s.tun ∧ ∀ m : MotorId,
      (t.motor m).control = (s.motor m).control ∧
      (t.motor m).pidP = (s.motor m).pidP ∧ (t.motor m).pidI = (s.motor m).pidI ∧
      (t.motor m).pidD = (s.motor m).pidD ∧ (t.motor m).targetRate = (s.motor m).targetRate) ∧
  ∀ s : State, s.load.load = s.load

/-- R53 at reset, which the spec derives from its handlers. -/
def Obligations.ResetMeetsTheInvariant : Prop :=
  State.reset.Inv ∧ ∀ p : Params, (State.powerOn p).Inv

/-- R53 (b) to (g) and R338, which the spec derives from its handlers. -/
def Obligations.EveryStepKeepsTheInvariant : Prop :=
  ∀ s t : State, s.Inv → step s = .next t → t.Inv

/-- R118: no encoding makes the hardware trap, fault or stop. -/
def Obligations.NoStepFaultsUnderTheInvariant : Prop :=
  (∀ s : State, s.Inv → SafeStep s) ∧
  ∀ (s : State) (i : Instr), s.Inv → ∃ t, exec i s = .next t

/-- R367; the rank of register writes and reads is the model's choice (notes/assumptions/13.md). -/
def Obligations.SimultaneousEventsAreOrderedByPriority : Prop :=
  (∀ (b1 b2 : Bool) (v : Nat) (b : Byte),
    rank .por < rank .wdt ∧ rank .wdt < rank (.enc .m1 b1) ∧ rank (.enc .m1 b1) < rank (.enc .m2 b2) ∧
    rank (.enc .m2 b2) < rank .tick ∧ rank .tick < rank (.adc v) ∧ rank (.adc v) < rank .startW ∧
    rank .startW = rank (.rx b) ∧ rank (.rx b) = rank .endW ∧ rank .endW < rank .req) ∧
  ∀ l : List Instr,
    (serialise l).Perm l ∧
    (serialise l).Pairwise (fun i j => rank i ≤ rank j) ∧
    ∀ k : Nat, (serialise l).filter (fun i => rank i == k) = l.filter (fun i => rank i == k)
end

