-- ==== Sys2Proof/Laws/State.lean ====
section
/-! SUPPORT. The small lemmas of the record updates: for each update, one lemma per field it leaves alone or writes
plainly, so that no later proof unfolds an update. -/

namespace Sys2Proof.Machine

/-! ### One motor of two (R14) -/

@[simp] theorem State.motor_m1 (s : State) : s.motor .m1 = s.m1 := rfl

@[simp] theorem State.motor_m2 (s : State) : s.motor .m2 = s.m2 := rfl

@[simp] theorem State.setMotor_m1 (s : State) (m : MotorRegs) : s.setMotor .m1 m = { s with m1 := m } := rfl

@[simp] theorem State.setMotor_m2 (s : State) (m : MotorRegs) : s.setMotor .m2 m = { s with m2 := m } := rfl

@[simp] theorem State.setMotor_tun (s : State) (i : MotorId) (m : MotorRegs) : (s.setMotor i m).tun = s.tun :=
  by cases i <;> rfl

@[simp] theorem State.setMotor_bus (s : State) (i : MotorId) (m : MotorRegs) : (s.setMotor i m).bus = s.bus :=
  by cases i <;> rfl

@[simp] theorem State.setMotor_adcChan (s : State) (i : MotorId) (m : MotorRegs) : (s.setMotor i m).adcChan = s.adcChan :=
  by cases i <;> rfl

@[simp] theorem State.setMotor_run (s : State) (i : MotorId) (m : MotorRegs) : (s.setMotor i m).run = s.run :=
  by cases i <;> rfl

@[simp] theorem State.setMotor_nv (s : State) (i : MotorId) (m : MotorRegs) : (s.setMotor i m).nv = s.nv :=
  by cases i <;> rfl

@[simp] theorem State.setMotor_params (s : State) (i : MotorId) (m : MotorRegs) : (s.setMotor i m).params = s.params :=
  by cases i <;> rfl

@[simp] theorem State.setMotor_input (s : State) (i : MotorId) (m : MotorRegs) : (s.setMotor i m).input = s.input :=
  by cases i <;> rfl

@[simp] theorem State.setMotor_readBlock (s : State) (i : MotorId) (m : MotorRegs) : (s.setMotor i m).readBlock = s.readBlock :=
  by cases i <;> rfl

@[simp] theorem State.motor_setMotor_same (s : State) (i : MotorId) (m : MotorRegs) : (s.setMotor i m).motor i = m :=
  by cases i <;> rfl

theorem State.motor_setMotor_other (s : State) {i j : MotorId} (m : MotorRegs) (h : j ≠ i) :
    (s.setMotor i m).motor j = s.motor j := by
  cases i <;> cases j <;> first | rfl | exact absurd rfl h

@[simp] theorem State.mapMotor_m1 (s : State) (f : MotorRegs → MotorRegs) : s.mapMotor .m1 f = { s with m1 := f s.m1 } :=
  rfl

@[simp] theorem State.mapMotor_m2 (s : State) (f : MotorRegs → MotorRegs) : s.mapMotor .m2 f = { s with m2 := f s.m2 } :=
  rfl

@[simp] theorem State.mapMotor_tun (s : State) (i : MotorId) (f : MotorRegs → MotorRegs) : (s.mapMotor i f).tun = s.tun :=
  by cases i <;> rfl

@[simp] theorem State.mapMotor_bus (s : State) (i : MotorId) (f : MotorRegs → MotorRegs) : (s.mapMotor i f).bus = s.bus :=
  by cases i <;> rfl

@[simp] theorem State.mapMotor_adcChan (s : State) (i : MotorId) (f : MotorRegs → MotorRegs) : (s.mapMotor i f).adcChan = s.adcChan :=
  by cases i <;> rfl

@[simp] theorem State.mapMotor_run (s : State) (i : MotorId) (f : MotorRegs → MotorRegs) : (s.mapMotor i f).run = s.run :=
  by cases i <;> rfl

@[simp] theorem State.mapMotor_nv (s : State) (i : MotorId) (f : MotorRegs → MotorRegs) : (s.mapMotor i f).nv = s.nv :=
  by cases i <;> rfl

@[simp] theorem State.mapMotor_params (s : State) (i : MotorId) (f : MotorRegs → MotorRegs) : (s.mapMotor i f).params = s.params :=
  by cases i <;> rfl

@[simp] theorem State.mapMotor_input (s : State) (i : MotorId) (f : MotorRegs → MotorRegs) : (s.mapMotor i f).input = s.input :=
  by cases i <;> rfl

@[simp] theorem State.mapMotor_readBlock (s : State) (i : MotorId) (f : MotorRegs → MotorRegs) : (s.mapMotor i f).readBlock = s.readBlock :=
  by cases i <;> rfl

@[simp] theorem State.motor_mapMotor_same (s : State) (i : MotorId) (f : MotorRegs → MotorRegs) : (s.mapMotor i f).motor i = f (s.motor i) :=
  by cases i <;> rfl

theorem State.motor_mapMotor_other (s : State) {i j : MotorId} (f : MotorRegs → MotorRegs) (h : j ≠ i) :
    (s.mapMotor i f).motor j = s.motor j :=
  s.motor_setMotor_other _ h

/-! ### Protocol registers -/

@[simp] theorem State.startWrite_m1 (s : State) : (s.startWrite).m1 = s.m1 := rfl

@[simp] theorem State.startWrite_m2 (s : State) : (s.startWrite).m2 = s.m2 := rfl

@[simp] theorem State.startWrite_tun (s : State) : (s.startWrite).tun = s.tun := rfl

@[simp] theorem State.startWrite_adcChan (s : State) : (s.startWrite).adcChan = s.adcChan := rfl

@[simp] theorem State.startWrite_run (s : State) : (s.startWrite).run = s.run := rfl

@[simp] theorem State.startWrite_nv (s : State) : (s.startWrite).nv = s.nv := rfl

@[simp] theorem State.startWrite_params (s : State) : (s.startWrite).params = s.params := rfl

@[simp] theorem State.startWrite_input (s : State) : (s.startWrite).input = s.input := rfl

@[simp] theorem State.startWrite_readBlock (s : State) : (s.startWrite).readBlock = s.readBlock := rfl

@[simp] theorem State.closeTransaction_m1 (s : State) : (s.closeTransaction).m1 = s.m1 := rfl

@[simp] theorem State.closeTransaction_m2 (s : State) : (s.closeTransaction).m2 = s.m2 := rfl

@[simp] theorem State.closeTransaction_tun (s : State) : (s.closeTransaction).tun = s.tun := rfl

@[simp] theorem State.closeTransaction_adcChan (s : State) : (s.closeTransaction).adcChan = s.adcChan := rfl

@[simp] theorem State.closeTransaction_run (s : State) : (s.closeTransaction).run = s.run := rfl

@[simp] theorem State.closeTransaction_nv (s : State) : (s.closeTransaction).nv = s.nv := rfl

@[simp] theorem State.closeTransaction_params (s : State) : (s.closeTransaction).params = s.params := rfl

@[simp] theorem State.closeTransaction_input (s : State) : (s.closeTransaction).input = s.input := rfl

@[simp] theorem State.closeTransaction_readBlock (s : State) : (s.closeTransaction).readBlock = s.readBlock :=
  rfl

@[simp] theorem State.setPhase_m1 (s : State) (p : RxPhase) : (s.setPhase p).m1 = s.m1 := rfl

@[simp] theorem State.setPhase_m2 (s : State) (p : RxPhase) : (s.setPhase p).m2 = s.m2 := rfl

@[simp] theorem State.setPhase_tun (s : State) (p : RxPhase) : (s.setPhase p).tun = s.tun := rfl

@[simp] theorem State.setPhase_adcChan (s : State) (p : RxPhase) : (s.setPhase p).adcChan = s.adcChan := rfl

@[simp] theorem State.setPhase_run (s : State) (p : RxPhase) : (s.setPhase p).run = s.run := rfl

@[simp] theorem State.setPhase_nv (s : State) (p : RxPhase) : (s.setPhase p).nv = s.nv := rfl

@[simp] theorem State.setPhase_params (s : State) (p : RxPhase) : (s.setPhase p).params = s.params := rfl

@[simp] theorem State.setPhase_input (s : State) (p : RxPhase) : (s.setPhase p).input = s.input := rfl

@[simp] theorem State.setPhase_readBlock (s : State) (p : RxPhase) : (s.setPhase p).readBlock = s.readBlock :=
  rfl

@[simp] theorem State.select_m1 (s : State) (a : Byte) : (s.select a).m1 = s.m1 := rfl

@[simp] theorem State.select_m2 (s : State) (a : Byte) : (s.select a).m2 = s.m2 := rfl

@[simp] theorem State.select_tun (s : State) (a : Byte) : (s.select a).tun = s.tun := rfl

@[simp] theorem State.select_adcChan (s : State) (a : Byte) : (s.select a).adcChan = s.adcChan := rfl

@[simp] theorem State.select_run (s : State) (a : Byte) : (s.select a).run = s.run := rfl

@[simp] theorem State.select_nv (s : State) (a : Byte) : (s.select a).nv = s.nv := rfl

@[simp] theorem State.select_params (s : State) (a : Byte) : (s.select a).params = s.params := rfl

@[simp] theorem State.select_input (s : State) (a : Byte) : (s.select a).input = s.input := rfl

@[simp] theorem State.select_readBlock (s : State) (a : Byte) : (s.select a).readBlock = s.readBlock := rfl

@[simp] theorem State.ended_m1 (s : State) (a : Byte) : (s.ended a).m1 = s.m1 := rfl

@[simp] theorem State.ended_m2 (s : State) (a : Byte) : (s.ended a).m2 = s.m2 := rfl

@[simp] theorem State.ended_tun (s : State) (a : Byte) : (s.ended a).tun = s.tun := rfl

@[simp] theorem State.ended_adcChan (s : State) (a : Byte) : (s.ended a).adcChan = s.adcChan := rfl

@[simp] theorem State.ended_run (s : State) (a : Byte) : (s.ended a).run = s.run := rfl

@[simp] theorem State.ended_nv (s : State) (a : Byte) : (s.ended a).nv = s.nv := rfl

@[simp] theorem State.ended_params (s : State) (a : Byte) : (s.ended a).params = s.params := rfl

@[simp] theorem State.ended_input (s : State) (a : Byte) : (s.ended a).input = s.input := rfl

@[simp] theorem State.ended_readBlock (s : State) (a : Byte) : (s.ended a).readBlock = s.readBlock := rfl

@[simp] theorem State.startWrite_bus_activeAddr (s : State) : (s.startWrite).bus.activeAddr = s.bus.activeAddr :=
  rfl

@[simp] theorem State.startWrite_bus_rxPhase (s : State) : (s.startWrite).bus.rxPhase = .addr := rfl

@[simp] theorem State.startWrite_bus_stage (s : State) : (s.startWrite).bus.stage = [] := rfl

@[simp] theorem State.startWrite_bus_advPending (s : State) : (s.startWrite).bus.advPending = false := rfl

@[simp] theorem State.startWrite_bus_updated (s : State) : (s.startWrite).bus.updated = s.bus.updated := rfl

@[simp] theorem State.startWrite_bus_saveSelector (s : State) : (s.startWrite).bus.saveSelector = s.bus.saveSelector :=
  rfl

@[simp] theorem State.closeTransaction_bus_activeAddr (s : State) : (s.closeTransaction).bus.activeAddr = s.bus.activeAddr :=
  rfl

@[simp] theorem State.closeTransaction_bus_rxPhase (s : State) : (s.closeTransaction).bus.rxPhase = .idle :=
  rfl

@[simp] theorem State.closeTransaction_bus_stage (s : State) : (s.closeTransaction).bus.stage = [] := rfl

@[simp] theorem State.closeTransaction_bus_advPending (s : State) : (s.closeTransaction).bus.advPending = false :=
  rfl

@[simp] theorem State.closeTransaction_bus_updated (s : State) : (s.closeTransaction).bus.updated = 0 := rfl

@[simp] theorem State.closeTransaction_bus_saveSelector (s : State) : (s.closeTransaction).bus.saveSelector = s.bus.saveSelector :=
  rfl

@[simp] theorem State.setPhase_bus_activeAddr (s : State) (p : RxPhase) : (s.setPhase p).bus.activeAddr = s.bus.activeAddr :=
  rfl

@[simp] theorem State.setPhase_bus_rxPhase (s : State) (p : RxPhase) : (s.setPhase p).bus.rxPhase = p := rfl

@[simp] theorem State.setPhase_bus_stage (s : State) (p : RxPhase) : (s.setPhase p).bus.stage = s.bus.stage :=
  rfl

@[simp] theorem State.setPhase_bus_advPending (s : State) (p : RxPhase) : (s.setPhase p).bus.advPending = s.bus.advPending :=
  rfl

@[simp] theorem State.setPhase_bus_updated (s : State) (p : RxPhase) : (s.setPhase p).bus.updated = s.bus.updated :=
  rfl

@[simp] theorem State.setPhase_bus_saveSelector (s : State) (p : RxPhase) : (s.setPhase p).bus.saveSelector = s.bus.saveSelector :=
  rfl

@[simp] theorem State.select_bus_activeAddr (s : State) (a : Byte) : (s.select a).bus.activeAddr = a := rfl

@[simp] theorem State.select_bus_rxPhase (s : State) (a : Byte) : (s.select a).bus.rxPhase = s.bus.rxPhase :=
  rfl

@[simp] theorem State.select_bus_stage (s : State) (a : Byte) : (s.select a).bus.stage = s.bus.stage := rfl

@[simp] theorem State.select_bus_advPending (s : State) (a : Byte) : (s.select a).bus.advPending = s.bus.advPending :=
  rfl

@[simp] theorem State.select_bus_updated (s : State) (a : Byte) : (s.select a).bus.updated = s.bus.updated :=
  rfl

@[simp] theorem State.select_bus_saveSelector (s : State) (a : Byte) : (s.select a).bus.saveSelector = s.bus.saveSelector :=
  rfl

@[simp] theorem State.ended_bus_activeAddr (s : State) (a : Byte) : (s.ended a).bus.activeAddr = a := rfl

@[simp] theorem State.ended_bus_rxPhase (s : State) (a : Byte) : (s.ended a).bus.rxPhase = .idle := rfl

@[simp] theorem State.ended_bus_stage (s : State) (a : Byte) : (s.ended a).bus.stage = [] := rfl

@[simp] theorem State.ended_bus_advPending (s : State) (a : Byte) : (s.ended a).bus.advPending = false := rfl

@[simp] theorem State.ended_bus_updated (s : State) (a : Byte) : (s.ended a).bus.updated = 0 := rfl

@[simp] theorem State.ended_bus_saveSelector (s : State) (a : Byte) : (s.ended a).bus.saveSelector = s.bus.saveSelector :=
  rfl

@[simp] theorem State.markUpdated_m1 (s : State) (r : Reg) : (s.markUpdated r).m1 = s.m1 :=
  by unfold State.markUpdated; split <;> rfl

@[simp] theorem State.markUpdated_m2 (s : State) (r : Reg) : (s.markUpdated r).m2 = s.m2 :=
  by unfold State.markUpdated; split <;> rfl

@[simp] theorem State.markUpdated_tun (s : State) (r : Reg) : (s.markUpdated r).tun = s.tun :=
  by unfold State.markUpdated; split <;> rfl

@[simp] theorem State.markUpdated_adcChan (s : State) (r : Reg) : (s.markUpdated r).adcChan = s.adcChan :=
  by unfold State.markUpdated; split <;> rfl

@[simp] theorem State.markUpdated_run (s : State) (r : Reg) : (s.markUpdated r).run = s.run :=
  by unfold State.markUpdated; split <;> rfl

@[simp] theorem State.markUpdated_nv (s : State) (r : Reg) : (s.markUpdated r).nv = s.nv :=
  by unfold State.markUpdated; split <;> rfl

@[simp] theorem State.markUpdated_params (s : State) (r : Reg) : (s.markUpdated r).params = s.params :=
  by unfold State.markUpdated; split <;> rfl

@[simp] theorem State.markUpdated_input (s : State) (r : Reg) : (s.markUpdated r).input = s.input :=
  by unfold State.markUpdated; split <;> rfl

@[simp] theorem State.markUpdated_readBlock (s : State) (r : Reg) : (s.markUpdated r).readBlock = s.readBlock :=
  by unfold State.markUpdated; split <;> rfl

@[simp] theorem State.markUpdated_bus_activeAddr (s : State) (r : Reg) : (s.markUpdated r).bus.activeAddr = s.bus.activeAddr :=
  by unfold State.markUpdated; split <;> rfl

@[simp] theorem State.markUpdated_bus_rxPhase (s : State) (r : Reg) : (s.markUpdated r).bus.rxPhase = s.bus.rxPhase :=
  by unfold State.markUpdated; split <;> rfl

@[simp] theorem State.markUpdated_bus_stage (s : State) (r : Reg) : (s.markUpdated r).bus.stage = s.bus.stage :=
  by unfold State.markUpdated; split <;> rfl

@[simp] theorem State.markUpdated_bus_advPending (s : State) (r : Reg) : (s.markUpdated r).bus.advPending = s.bus.advPending :=
  by unfold State.markUpdated; split <;> rfl

@[simp] theorem State.markUpdated_bus_saveSelector (s : State) (r : Reg) : (s.markUpdated r).bus.saveSelector = s.bus.saveSelector :=
  by unfold State.markUpdated; split <;> rfl

/-! ### Derived state, store and reset: what they leave alone -/

@[simp] theorem State.update_tun (s : State) (i : MotorId) : (s.update i).tun = s.tun := s.mapMotor_tun i _

@[simp] theorem State.update_bus (s : State) (i : MotorId) : (s.update i).bus = s.bus := s.mapMotor_bus i _

@[simp] theorem State.update_adcChan (s : State) (i : MotorId) : (s.update i).adcChan = s.adcChan :=
  s.mapMotor_adcChan i _

@[simp] theorem State.update_run (s : State) (i : MotorId) : (s.update i).run = s.run := s.mapMotor_run i _

@[simp] theorem State.update_nv (s : State) (i : MotorId) : (s.update i).nv = s.nv := s.mapMotor_nv i _

@[simp] theorem State.update_params (s : State) (i : MotorId) : (s.update i).params = s.params :=
  s.mapMotor_params i _

@[simp] theorem State.update_input (s : State) (i : MotorId) : (s.update i).input = s.input :=
  s.mapMotor_input i _

@[simp] theorem State.update_readBlock (s : State) (i : MotorId) : (s.update i).readBlock = s.readBlock :=
  s.mapMotor_readBlock i _

@[simp] theorem State.loadControl_tun (s : State) (i : MotorId) : (s.loadControl i).tun = s.tun :=
  s.mapMotor_tun i _

@[simp] theorem State.loadControl_bus (s : State) (i : MotorId) : (s.loadControl i).bus = s.bus :=
  s.mapMotor_bus i _

@[simp] theorem State.loadControl_adcChan (s : State) (i : MotorId) : (s.loadControl i).adcChan = s.adcChan :=
  s.mapMotor_adcChan i _

@[simp] theorem State.loadControl_run (s : State) (i : MotorId) : (s.loadControl i).run = s.run :=
  s.mapMotor_run i _

@[simp] theorem State.loadControl_nv (s : State) (i : MotorId) : (s.loadControl i).nv = s.nv :=
  s.mapMotor_nv i _

@[simp] theorem State.loadControl_params (s : State) (i : MotorId) : (s.loadControl i).params = s.params :=
  s.mapMotor_params i _

@[simp] theorem State.loadControl_input (s : State) (i : MotorId) : (s.loadControl i).input = s.input :=
  s.mapMotor_input i _

@[simp] theorem State.loadControl_readBlock (s : State) (i : MotorId) : (s.loadControl i).readBlock = s.readBlock :=
  s.mapMotor_readBlock i _

@[simp] theorem State.tickMotor_tun (s : State) (i : MotorId) : (s.tickMotor i).tun = s.tun :=
  s.mapMotor_tun i _

@[simp] theorem State.tickMotor_bus (s : State) (i : MotorId) : (s.tickMotor i).bus = s.bus :=
  s.mapMotor_bus i _

@[simp] theorem State.tickMotor_adcChan (s : State) (i : MotorId) : (s.tickMotor i).adcChan = s.adcChan :=
  s.mapMotor_adcChan i _

@[simp] theorem State.tickMotor_run (s : State) (i : MotorId) : (s.tickMotor i).run = s.run :=
  s.mapMotor_run i _

@[simp] theorem State.tickMotor_nv (s : State) (i : MotorId) : (s.tickMotor i).nv = s.nv := s.mapMotor_nv i _

@[simp] theorem State.tickMotor_params (s : State) (i : MotorId) : (s.tickMotor i).params = s.params :=
  s.mapMotor_params i _

@[simp] theorem State.tickMotor_input (s : State) (i : MotorId) : (s.tickMotor i).input = s.input :=
  s.mapMotor_input i _

@[simp] theorem State.tickMotor_readBlock (s : State) (i : MotorId) : (s.tickMotor i).readBlock = s.readBlock :=
  s.mapMotor_readBlock i _

@[simp] theorem State.load_bus (s : State) : s.load.bus = s.bus := by simp [State.load]

@[simp] theorem State.load_adcChan (s : State) : s.load.adcChan = s.adcChan := by simp [State.load]

@[simp] theorem State.load_run (s : State) : s.load.run = s.run := by simp [State.load]

@[simp] theorem State.load_nv (s : State) : s.load.nv = s.nv := by simp [State.load]

@[simp] theorem State.load_params (s : State) : s.load.params = s.params := by simp [State.load]

@[simp] theorem State.load_input (s : State) : s.load.input = s.input := by simp [State.load]

@[simp] theorem State.load_readBlock (s : State) : s.load.readBlock = s.readBlock := by simp [State.load]

@[simp] theorem State.load_tun (s : State) : s.load.tun = loadedTunables s.nv s.params := by simp [State.load]

@[simp] theorem State.save_m1 (s : State) (sel : Byte) : (s.save sel).m1 = s.m1 :=
  by unfold State.save; dsimp only; split <;> rfl

@[simp] theorem State.save_m2 (s : State) (sel : Byte) : (s.save sel).m2 = s.m2 :=
  by unfold State.save; dsimp only; split <;> rfl

@[simp] theorem State.save_tun (s : State) (sel : Byte) : (s.save sel).tun = s.tun :=
  by unfold State.save; dsimp only; split <;> rfl

@[simp] theorem State.save_bus (s : State) (sel : Byte) : (s.save sel).bus = s.bus :=
  by unfold State.save; dsimp only; split <;> rfl

@[simp] theorem State.save_adcChan (s : State) (sel : Byte) : (s.save sel).adcChan = s.adcChan :=
  by unfold State.save; dsimp only; split <;> rfl

@[simp] theorem State.save_run (s : State) (sel : Byte) : (s.save sel).run = s.run :=
  by unfold State.save; dsimp only; split <;> rfl

@[simp] theorem State.save_params (s : State) (sel : Byte) : (s.save sel).params = s.params :=
  by unfold State.save; dsimp only; split <;> rfl

@[simp] theorem State.save_input (s : State) (sel : Byte) : (s.save sel).input = s.input :=
  by unfold State.save; dsimp only; split <;> rfl

@[simp] theorem State.save_readBlock (s : State) (sel : Byte) : (s.save sel).readBlock = s.readBlock :=
  by unfold State.save; dsimp only; split <;> rfl

@[simp] theorem State.clearRegs_nv (s : State) : s.clearRegs.nv = s.nv := rfl

@[simp] theorem State.resetCore_nv (s : State) : s.resetCore.nv = s.nv := s.clearRegs.load_nv

@[simp] theorem State.clearRegs_params (s : State) : s.clearRegs.params = s.params := rfl

@[simp] theorem State.resetCore_params (s : State) : s.resetCore.params = s.params := s.clearRegs.load_params

@[simp] theorem State.clearRegs_input (s : State) : s.clearRegs.input = s.input := rfl

@[simp] theorem State.resetCore_input (s : State) : s.resetCore.input = s.input := s.clearRegs.load_input

@[simp] theorem State.clearRegs_readBlock (s : State) : s.clearRegs.readBlock = s.readBlock := rfl

@[simp] theorem State.resetCore_readBlock (s : State) : s.resetCore.readBlock = s.readBlock :=
  s.clearRegs.load_readBlock

/-! ### Motor registers: what each routine leaves alone, and what it writes plainly -/

@[simp] theorem MotorRegs.apply_control (m : MotorRegs) : (m.apply).control = m.control :=
  by unfold MotorRegs.apply; split_ifs <;> simp_all

@[simp] theorem MotorRegs.apply_setPower (m : MotorRegs) : (m.apply).setPower = m.setPower :=
  by unfold MotorRegs.apply; split_ifs <;> simp_all

@[simp] theorem MotorRegs.apply_currentPower (m : MotorRegs) : (m.apply).currentPower = m.currentPower :=
  by unfold MotorRegs.apply; split_ifs <;> simp_all

@[simp] theorem MotorRegs.apply_scaledPower (m : MotorRegs) : (m.apply).scaledPower = m.scaledPower :=
  by unfold MotorRegs.apply; split_ifs <;> simp_all

@[simp] theorem MotorRegs.apply_targetRate (m : MotorRegs) : (m.apply).targetRate = m.targetRate :=
  by unfold MotorRegs.apply; split_ifs <;> simp_all

@[simp] theorem MotorRegs.apply_currentRate (m : MotorRegs) : (m.apply).currentRate = m.currentRate :=
  by unfold MotorRegs.apply; split_ifs <;> simp_all

@[simp] theorem MotorRegs.apply_encoderValue (m : MotorRegs) : (m.apply).encoderValue = m.encoderValue :=
  by unfold MotorRegs.apply; split_ifs <;> simp_all

@[simp] theorem MotorRegs.apply_oldEnc (m : MotorRegs) : (m.apply).oldEnc = m.oldEnc :=
  by unfold MotorRegs.apply; split_ifs <;> simp_all

@[simp] theorem MotorRegs.apply_currentDraw (m : MotorRegs) : (m.apply).currentDraw = m.currentDraw :=
  by unfold MotorRegs.apply; split_ifs <;> simp_all

@[simp] theorem MotorRegs.apply_pidP (m : MotorRegs) : (m.apply).pidP = m.pidP :=
  by unfold MotorRegs.apply; split_ifs <;> simp_all

@[simp] theorem MotorRegs.apply_pidI (m : MotorRegs) : (m.apply).pidI = m.pidI :=
  by unfold MotorRegs.apply; split_ifs <;> simp_all

@[simp] theorem MotorRegs.apply_pidD (m : MotorRegs) : (m.apply).pidD = m.pidD :=
  by unfold MotorRegs.apply; split_ifs <;> simp_all

@[simp] theorem MotorRegs.apply_outDuty (m : MotorRegs) : (m.apply).outDuty = m.currentPower :=
  by unfold MotorRegs.apply; split_ifs <;> simp_all

@[simp] theorem MotorRegs.apply_outPol (m : MotorRegs) : (m.apply).outPol = m.outPol :=
  by unfold MotorRegs.apply; split_ifs <;> simp_all

@[simp] theorem MotorRegs.commitControl_control (m : MotorRegs) (v : Byte) : (m.commitControl v).control = asControl v :=
  by unfold MotorRegs.commitControl; dsimp only; split <;> rfl

@[simp] theorem MotorRegs.commitControl_setPower (m : MotorRegs) (v : Byte) : (m.commitControl v).setPower = m.setPower :=
  by unfold MotorRegs.commitControl; dsimp only; split <;> rfl

@[simp] theorem MotorRegs.commitControl_currentPower (m : MotorRegs) (v : Byte) : (m.commitControl v).currentPower = m.currentPower :=
  by unfold MotorRegs.commitControl; dsimp only; split <;> rfl

@[simp] theorem MotorRegs.commitControl_scaledPower (m : MotorRegs) (v : Byte) : (m.commitControl v).scaledPower = m.scaledPower :=
  by unfold MotorRegs.commitControl; dsimp only; split <;> rfl

@[simp] theorem MotorRegs.commitControl_currentRate (m : MotorRegs) (v : Byte) : (m.commitControl v).currentRate = m.currentRate :=
  by unfold MotorRegs.commitControl; dsimp only; split <;> rfl

@[simp] theorem MotorRegs.commitControl_encoderValue (m : MotorRegs) (v : Byte) : (m.commitControl v).encoderValue = m.encoderValue :=
  by unfold MotorRegs.commitControl; dsimp only; split <;> rfl

@[simp] theorem MotorRegs.commitControl_oldEnc (m : MotorRegs) (v : Byte) : (m.commitControl v).oldEnc = m.oldEnc :=
  by unfold MotorRegs.commitControl; dsimp only; split <;> rfl

@[simp] theorem MotorRegs.commitControl_currentDraw (m : MotorRegs) (v : Byte) : (m.commitControl v).currentDraw = m.currentDraw :=
  by unfold MotorRegs.commitControl; dsimp only; split <;> rfl

@[simp] theorem MotorRegs.commitControl_outMode (m : MotorRegs) (v : Byte) : (m.commitControl v).outMode = m.outMode :=
  by unfold MotorRegs.commitControl; dsimp only; split <;> rfl

@[simp] theorem MotorRegs.commitControl_outDuty (m : MotorRegs) (v : Byte) : (m.commitControl v).outDuty = m.outDuty :=
  by unfold MotorRegs.commitControl; dsimp only; split <;> rfl

@[simp] theorem MotorRegs.commitControl_outPol (m : MotorRegs) (v : Byte) : (m.commitControl v).outPol = m.outPol :=
  by unfold MotorRegs.commitControl; dsimp only; split <;> rfl

@[simp] theorem MotorRegs.passThrough_control (m : MotorRegs) : (m.passThrough).control = m.control :=
  by rw [MotorRegs.passThrough]

@[simp] theorem MotorRegs.passThrough_setPower (m : MotorRegs) : (m.passThrough).setPower = m.setPower :=
  by rw [MotorRegs.passThrough]

@[simp] theorem MotorRegs.passThrough_currentPower (m : MotorRegs) : (m.passThrough).currentPower = m.scaledPower :=
  by rw [MotorRegs.passThrough]

@[simp] theorem MotorRegs.passThrough_scaledPower (m : MotorRegs) : (m.passThrough).scaledPower = m.scaledPower :=
  by rw [MotorRegs.passThrough]

@[simp] theorem MotorRegs.passThrough_targetRate (m : MotorRegs) : (m.passThrough).targetRate = m.targetRate :=
  by rw [MotorRegs.passThrough]

@[simp] theorem MotorRegs.passThrough_currentRate (m : MotorRegs) : (m.passThrough).currentRate = m.currentRate :=
  by rw [MotorRegs.passThrough]

@[simp] theorem MotorRegs.passThrough_encoderValue (m : MotorRegs) : (m.passThrough).encoderValue = m.encoderValue :=
  by rw [MotorRegs.passThrough]

@[simp] theorem MotorRegs.passThrough_oldEnc (m : MotorRegs) : (m.passThrough).oldEnc = m.oldEnc :=
  by rw [MotorRegs.passThrough]

@[simp] theorem MotorRegs.passThrough_currentDraw (m : MotorRegs) : (m.passThrough).currentDraw = m.currentDraw :=
  by rw [MotorRegs.passThrough]

@[simp] theorem MotorRegs.passThrough_pidP (m : MotorRegs) : (m.passThrough).pidP = m.pidP :=
  by rw [MotorRegs.passThrough]

@[simp] theorem MotorRegs.passThrough_pidI (m : MotorRegs) : (m.passThrough).pidI = m.pidI :=
  by rw [MotorRegs.passThrough]

@[simp] theorem MotorRegs.passThrough_pidD (m : MotorRegs) : (m.passThrough).pidD = m.pidD :=
  by rw [MotorRegs.passThrough]

@[simp] theorem MotorRegs.passThrough_outMode (m : MotorRegs) : (m.passThrough).outMode = m.outMode :=
  by rw [MotorRegs.passThrough]

@[simp] theorem MotorRegs.passThrough_outDuty (m : MotorRegs) : (m.passThrough).outDuty = m.outDuty :=
  by rw [MotorRegs.passThrough]

@[simp] theorem MotorRegs.passThrough_outPol (m : MotorRegs) : (m.passThrough).outPol = directionFlag m.control :=
  by rw [MotorRegs.passThrough]

@[simp] theorem MotorRegs.rescaled_control (m : MotorRegs) (f : Byte) : (m.rescaled f).control = m.control :=
  by rw [MotorRegs.rescaled]

@[simp] theorem MotorRegs.rescaled_setPower (m : MotorRegs) (f : Byte) : (m.rescaled f).setPower = m.setPower :=
  by rw [MotorRegs.rescaled]

@[simp] theorem MotorRegs.rescaled_currentPower (m : MotorRegs) (f : Byte) : (m.rescaled f).currentPower = m.currentPower :=
  by rw [MotorRegs.rescaled]

@[simp] theorem MotorRegs.rescaled_scaledPower (m : MotorRegs) (f : Byte) : (m.rescaled f).scaledPower = rescale f m.setPower :=
  by rw [MotorRegs.rescaled]

@[simp] theorem MotorRegs.rescaled_targetRate (m : MotorRegs) (f : Byte) : (m.rescaled f).targetRate = m.targetRate :=
  by rw [MotorRegs.rescaled]

@[simp] theorem MotorRegs.rescaled_currentRate (m : MotorRegs) (f : Byte) : (m.rescaled f).currentRate = m.currentRate :=
  by rw [MotorRegs.rescaled]

@[simp] theorem MotorRegs.rescaled_encoderValue (m : MotorRegs) (f : Byte) : (m.rescaled f).encoderValue = m.encoderValue :=
  by rw [MotorRegs.rescaled]

@[simp] theorem MotorRegs.rescaled_oldEnc (m : MotorRegs) (f : Byte) : (m.rescaled f).oldEnc = m.oldEnc :=
  by rw [MotorRegs.rescaled]

@[simp] theorem MotorRegs.rescaled_currentDraw (m : MotorRegs) (f : Byte) : (m.rescaled f).currentDraw = m.currentDraw :=
  by rw [MotorRegs.rescaled]

@[simp] theorem MotorRegs.rescaled_pidP (m : MotorRegs) (f : Byte) : (m.rescaled f).pidP = m.pidP :=
  by rw [MotorRegs.rescaled]

@[simp] theorem MotorRegs.rescaled_pidI (m : MotorRegs) (f : Byte) : (m.rescaled f).pidI = m.pidI :=
  by rw [MotorRegs.rescaled]

@[simp] theorem MotorRegs.rescaled_pidD (m : MotorRegs) (f : Byte) : (m.rescaled f).pidD = m.pidD :=
  by rw [MotorRegs.rescaled]

@[simp] theorem MotorRegs.rescaled_outMode (m : MotorRegs) (f : Byte) : (m.rescaled f).outMode = m.outMode :=
  by rw [MotorRegs.rescaled]

@[simp] theorem MotorRegs.rescaled_outDuty (m : MotorRegs) (f : Byte) : (m.rescaled f).outDuty = m.outDuty :=
  by rw [MotorRegs.rescaled]

@[simp] theorem MotorRegs.rescaled_outPol (m : MotorRegs) (f : Byte) : (m.rescaled f).outPol = m.outPol :=
  by rw [MotorRegs.rescaled]

@[simp] theorem MotorRegs.update_control (m : MotorRegs) (f : Byte) : (m.update f).control = m.control :=
  by unfold MotorRegs.update; dsimp only; split <;> simp

@[simp] theorem MotorRegs.update_setPower (m : MotorRegs) (f : Byte) : (m.update f).setPower = m.setPower :=
  by unfold MotorRegs.update; dsimp only; split <;> simp

@[simp] theorem MotorRegs.update_scaledPower (m : MotorRegs) (f : Byte) : (m.update f).scaledPower = rescale f m.setPower :=
  by unfold MotorRegs.update; dsimp only; split <;> simp

@[simp] theorem MotorRegs.update_targetRate (m : MotorRegs) (f : Byte) : (m.update f).targetRate = m.targetRate :=
  by unfold MotorRegs.update; dsimp only; split <;> simp

@[simp] theorem MotorRegs.update_currentRate (m : MotorRegs) (f : Byte) : (m.update f).currentRate = m.currentRate :=
  by unfold MotorRegs.update; dsimp only; split <;> simp

@[simp] theorem MotorRegs.update_encoderValue (m : MotorRegs) (f : Byte) : (m.update f).encoderValue = m.encoderValue :=
  by unfold MotorRegs.update; dsimp only; split <;> simp

@[simp] theorem MotorRegs.update_oldEnc (m : MotorRegs) (f : Byte) : (m.update f).oldEnc = m.oldEnc :=
  by unfold MotorRegs.update; dsimp only; split <;> simp

@[simp] theorem MotorRegs.update_currentDraw (m : MotorRegs) (f : Byte) : (m.update f).currentDraw = m.currentDraw :=
  by unfold MotorRegs.update; dsimp only; split <;> simp

@[simp] theorem MotorRegs.update_pidP (m : MotorRegs) (f : Byte) : (m.update f).pidP = m.pidP :=
  by unfold MotorRegs.update; dsimp only; split <;> simp

@[simp] theorem MotorRegs.update_pidI (m : MotorRegs) (f : Byte) : (m.update f).pidI = m.pidI :=
  by unfold MotorRegs.update; dsimp only; split <;> simp

@[simp] theorem MotorRegs.update_pidD (m : MotorRegs) (f : Byte) : (m.update f).pidD = m.pidD :=
  by unfold MotorRegs.update; dsimp only; split <;> simp

@[simp] theorem MotorRegs.rateStep_control (m : MotorRegs) (p : Params) : (m.rateStep p).control = m.control :=
  by rw [MotorRegs.rateStep]

@[simp] theorem MotorRegs.rateStep_setPower (m : MotorRegs) (p : Params) : (m.rateStep p).setPower = m.setPower :=
  by rw [MotorRegs.rateStep]

@[simp] theorem MotorRegs.rateStep_currentPower (m : MotorRegs) (p : Params) : (m.rateStep p).currentPower = m.currentPower :=
  by rw [MotorRegs.rateStep]

@[simp] theorem MotorRegs.rateStep_scaledPower (m : MotorRegs) (p : Params) : (m.rateStep p).scaledPower = m.scaledPower :=
  by rw [MotorRegs.rateStep]

@[simp] theorem MotorRegs.rateStep_targetRate (m : MotorRegs) (p : Params) : (m.rateStep p).targetRate = m.targetRate :=
  by rw [MotorRegs.rateStep]

@[simp] theorem MotorRegs.rateStep_encoderValue (m : MotorRegs) (p : Params) : (m.rateStep p).encoderValue = m.encoderValue :=
  by rw [MotorRegs.rateStep]

@[simp] theorem MotorRegs.rateStep_oldEnc (m : MotorRegs) (p : Params) : (m.rateStep p).oldEnc = m.encoderValue :=
  by rw [MotorRegs.rateStep]

@[simp] theorem MotorRegs.rateStep_currentDraw (m : MotorRegs) (p : Params) : (m.rateStep p).currentDraw = m.currentDraw :=
  by rw [MotorRegs.rateStep]

@[simp] theorem MotorRegs.rateStep_pidP (m : MotorRegs) (p : Params) : (m.rateStep p).pidP = m.pidP :=
  by rw [MotorRegs.rateStep]

@[simp] theorem MotorRegs.rateStep_pidI (m : MotorRegs) (p : Params) : (m.rateStep p).pidI = m.pidI :=
  by rw [MotorRegs.rateStep]

@[simp] theorem MotorRegs.rateStep_pidD (m : MotorRegs) (p : Params) : (m.rateStep p).pidD = m.pidD :=
  by rw [MotorRegs.rateStep]

@[simp] theorem MotorRegs.rateStep_outMode (m : MotorRegs) (p : Params) : (m.rateStep p).outMode = m.outMode :=
  by rw [MotorRegs.rateStep]

@[simp] theorem MotorRegs.rateStep_outDuty (m : MotorRegs) (p : Params) : (m.rateStep p).outDuty = m.outDuty :=
  by rw [MotorRegs.rateStep]

@[simp] theorem MotorRegs.rateStep_outPol (m : MotorRegs) (p : Params) : (m.rateStep p).outPol = m.outPol :=
  by rw [MotorRegs.rateStep]

@[simp] theorem MotorRegs.pidTerms_control (m : MotorRegs) (t : Tunables) (r : Half) : (m.pidTerms t r).control = m.control :=
  by rw [MotorRegs.pidTerms]

@[simp] theorem MotorRegs.pidTerms_setPower (m : MotorRegs) (t : Tunables) (r : Half) : (m.pidTerms t r).setPower = m.setPower :=
  by rw [MotorRegs.pidTerms]

@[simp] theorem MotorRegs.pidTerms_currentPower (m : MotorRegs) (t : Tunables) (r : Half) : (m.pidTerms t r).currentPower = m.currentPower :=
  by rw [MotorRegs.pidTerms]

@[simp] theorem MotorRegs.pidTerms_scaledPower (m : MotorRegs) (t : Tunables) (r : Half) : (m.pidTerms t r).scaledPower = m.scaledPower :=
  by rw [MotorRegs.pidTerms]

@[simp] theorem MotorRegs.pidTerms_targetRate (m : MotorRegs) (t : Tunables) (r : Half) : (m.pidTerms t r).targetRate = m.targetRate :=
  by rw [MotorRegs.pidTerms]

@[simp] theorem MotorRegs.pidTerms_currentRate (m : MotorRegs) (t : Tunables) (r : Half) : (m.pidTerms t r).currentRate = m.currentRate :=
  by rw [MotorRegs.pidTerms]

@[simp] theorem MotorRegs.pidTerms_encoderValue (m : MotorRegs) (t : Tunables) (r : Half) : (m.pidTerms t r).encoderValue = m.encoderValue :=
  by rw [MotorRegs.pidTerms]

@[simp] theorem MotorRegs.pidTerms_oldEnc (m : MotorRegs) (t : Tunables) (r : Half) : (m.pidTerms t r).oldEnc = m.oldEnc :=
  by rw [MotorRegs.pidTerms]

@[simp] theorem MotorRegs.pidTerms_currentDraw (m : MotorRegs) (t : Tunables) (r : Half) : (m.pidTerms t r).currentDraw = m.currentDraw :=
  by rw [MotorRegs.pidTerms]

@[simp] theorem MotorRegs.pidTerms_outMode (m : MotorRegs) (t : Tunables) (r : Half) : (m.pidTerms t r).outMode = m.outMode :=
  by rw [MotorRegs.pidTerms]

@[simp] theorem MotorRegs.pidTerms_outDuty (m : MotorRegs) (t : Tunables) (r : Half) : (m.pidTerms t r).outDuty = m.outDuty :=
  by rw [MotorRegs.pidTerms]

@[simp] theorem MotorRegs.pidTerms_outPol (m : MotorRegs) (t : Tunables) (r : Half) : (m.pidTerms t r).outPol = m.outPol :=
  by rw [MotorRegs.pidTerms]

@[simp] theorem MotorRegs.pidStep_setPower (m : MotorRegs) (t : Tunables) (r : Half) : (m.pidStep t r).setPower = m.setPower :=
  by rw [MotorRegs.pidStep]; simp

@[simp] theorem MotorRegs.pidStep_scaledPower (m : MotorRegs) (t : Tunables) (r : Half) : (m.pidStep t r).scaledPower = m.scaledPower :=
  by rw [MotorRegs.pidStep]; simp

@[simp] theorem MotorRegs.pidStep_targetRate (m : MotorRegs) (t : Tunables) (r : Half) : (m.pidStep t r).targetRate = m.targetRate :=
  by rw [MotorRegs.pidStep]; simp

@[simp] theorem MotorRegs.pidStep_currentRate (m : MotorRegs) (t : Tunables) (r : Half) : (m.pidStep t r).currentRate = m.currentRate :=
  by rw [MotorRegs.pidStep]; simp

@[simp] theorem MotorRegs.pidStep_encoderValue (m : MotorRegs) (t : Tunables) (r : Half) : (m.pidStep t r).encoderValue = m.encoderValue :=
  by rw [MotorRegs.pidStep]; simp

@[simp] theorem MotorRegs.pidStep_oldEnc (m : MotorRegs) (t : Tunables) (r : Half) : (m.pidStep t r).oldEnc = m.oldEnc :=
  by rw [MotorRegs.pidStep]; simp

@[simp] theorem MotorRegs.pidStep_currentDraw (m : MotorRegs) (t : Tunables) (r : Half) : (m.pidStep t r).currentDraw = m.currentDraw :=
  by rw [MotorRegs.pidStep]; simp

@[simp] theorem MotorRegs.pidStep_outMode (m : MotorRegs) (t : Tunables) (r : Half) : (m.pidStep t r).outMode = m.outMode :=
  by rw [MotorRegs.pidStep]; simp

@[simp] theorem MotorRegs.pidStep_outDuty (m : MotorRegs) (t : Tunables) (r : Half) : (m.pidStep t r).outDuty = m.outDuty :=
  by rw [MotorRegs.pidStep]; simp

@[simp] theorem MotorRegs.normalRamp_control (m : MotorRegs) (r : Byte) : (m.normalRamp r).control = m.control :=
  by rw [MotorRegs.normalRamp]

@[simp] theorem MotorRegs.normalRamp_setPower (m : MotorRegs) (r : Byte) : (m.normalRamp r).setPower = m.setPower :=
  by rw [MotorRegs.normalRamp]

@[simp] theorem MotorRegs.normalRamp_scaledPower (m : MotorRegs) (r : Byte) : (m.normalRamp r).scaledPower = m.scaledPower :=
  by rw [MotorRegs.normalRamp]

@[simp] theorem MotorRegs.normalRamp_targetRate (m : MotorRegs) (r : Byte) : (m.normalRamp r).targetRate = m.targetRate :=
  by rw [MotorRegs.normalRamp]

@[simp] theorem MotorRegs.normalRamp_currentRate (m : MotorRegs) (r : Byte) : (m.normalRamp r).currentRate = m.currentRate :=
  by rw [MotorRegs.normalRamp]

@[simp] theorem MotorRegs.normalRamp_encoderValue (m : MotorRegs) (r : Byte) : (m.normalRamp r).encoderValue = m.encoderValue :=
  by rw [MotorRegs.normalRamp]

@[simp] theorem MotorRegs.normalRamp_oldEnc (m : MotorRegs) (r : Byte) : (m.normalRamp r).oldEnc = m.oldEnc :=
  by rw [MotorRegs.normalRamp]

@[simp] theorem MotorRegs.normalRamp_currentDraw (m : MotorRegs) (r : Byte) : (m.normalRamp r).currentDraw = m.currentDraw :=
  by rw [MotorRegs.normalRamp]

@[simp] theorem MotorRegs.normalRamp_pidP (m : MotorRegs) (r : Byte) : (m.normalRamp r).pidP = m.pidP :=
  by rw [MotorRegs.normalRamp]

@[simp] theorem MotorRegs.normalRamp_pidI (m : MotorRegs) (r : Byte) : (m.normalRamp r).pidI = m.pidI :=
  by rw [MotorRegs.normalRamp]

@[simp] theorem MotorRegs.normalRamp_pidD (m : MotorRegs) (r : Byte) : (m.normalRamp r).pidD = m.pidD :=
  by rw [MotorRegs.normalRamp]

@[simp] theorem MotorRegs.normalRamp_outMode (m : MotorRegs) (r : Byte) : (m.normalRamp r).outMode = m.outMode :=
  by rw [MotorRegs.normalRamp]

@[simp] theorem MotorRegs.normalRamp_outDuty (m : MotorRegs) (r : Byte) : (m.normalRamp r).outDuty = m.outDuty :=
  by rw [MotorRegs.normalRamp]

@[simp] theorem MotorRegs.normalRamp_outPol (m : MotorRegs) (r : Byte) : (m.normalRamp r).outPol = m.outPol :=
  by rw [MotorRegs.normalRamp]

@[simp] theorem MotorRegs.rampStep_control (m : MotorRegs) (t : Tunables) : (m.rampStep t).control = m.control :=
  by unfold MotorRegs.rampStep; dsimp only; split_ifs <;> simp

@[simp] theorem MotorRegs.rampStep_setPower (m : MotorRegs) (t : Tunables) : (m.rampStep t).setPower = m.setPower :=
  by unfold MotorRegs.rampStep; dsimp only; split_ifs <;> simp

@[simp] theorem MotorRegs.rampStep_scaledPower (m : MotorRegs) (t : Tunables) : (m.rampStep t).scaledPower = rescale t.minPower m.setPower :=
  by unfold MotorRegs.rampStep; dsimp only; split_ifs <;> simp

@[simp] theorem MotorRegs.rampStep_targetRate (m : MotorRegs) (t : Tunables) : (m.rampStep t).targetRate = m.targetRate :=
  by unfold MotorRegs.rampStep; dsimp only; split_ifs <;> simp

@[simp] theorem MotorRegs.rampStep_currentRate (m : MotorRegs) (t : Tunables) : (m.rampStep t).currentRate = m.currentRate :=
  by unfold MotorRegs.rampStep; dsimp only; split_ifs <;> simp

@[simp] theorem MotorRegs.rampStep_encoderValue (m : MotorRegs) (t : Tunables) : (m.rampStep t).encoderValue = m.encoderValue :=
  by unfold MotorRegs.rampStep; dsimp only; split_ifs <;> simp

@[simp] theorem MotorRegs.rampStep_oldEnc (m : MotorRegs) (t : Tunables) : (m.rampStep t).oldEnc = m.oldEnc :=
  by unfold MotorRegs.rampStep; dsimp only; split_ifs <;> simp

@[simp] theorem MotorRegs.rampStep_currentDraw (m : MotorRegs) (t : Tunables) : (m.rampStep t).currentDraw = m.currentDraw :=
  by unfold MotorRegs.rampStep; dsimp only; split_ifs <;> simp

@[simp] theorem MotorRegs.rampStep_pidP (m : MotorRegs) (t : Tunables) : (m.rampStep t).pidP = m.pidP :=
  by unfold MotorRegs.rampStep; dsimp only; split_ifs <;> simp

@[simp] theorem MotorRegs.rampStep_pidI (m : MotorRegs) (t : Tunables) : (m.rampStep t).pidI = m.pidI :=
  by unfold MotorRegs.rampStep; dsimp only; split_ifs <;> simp

@[simp] theorem MotorRegs.rampStep_pidD (m : MotorRegs) (t : Tunables) : (m.rampStep t).pidD = m.pidD :=
  by unfold MotorRegs.rampStep; dsimp only; split_ifs <;> simp

@[simp] theorem MotorRegs.rampStep_outMode (m : MotorRegs) (t : Tunables) : (m.rampStep t).outMode = m.outMode :=
  by unfold MotorRegs.rampStep; dsimp only; split_ifs <;> simp

@[simp] theorem MotorRegs.rampStep_outDuty (m : MotorRegs) (t : Tunables) : (m.rampStep t).outDuty = m.outDuty :=
  by unfold MotorRegs.rampStep; dsimp only; split_ifs <;> simp

@[simp] theorem MotorRegs.directStep_control (m : MotorRegs) (t : Tunables) : (m.directStep t).control = m.control :=
  by rw [MotorRegs.directStep]; simp

@[simp] theorem MotorRegs.directStep_setPower (m : MotorRegs) (t : Tunables) : (m.directStep t).setPower = m.setPower :=
  by rw [MotorRegs.directStep]; simp

@[simp] theorem MotorRegs.directStep_currentPower (m : MotorRegs) (t : Tunables) : (m.directStep t).currentPower = rescale t.minPower m.setPower :=
  by rw [MotorRegs.directStep]; simp

@[simp] theorem MotorRegs.directStep_scaledPower (m : MotorRegs) (t : Tunables) : (m.directStep t).scaledPower = rescale t.minPower m.setPower :=
  by rw [MotorRegs.directStep]; simp

@[simp] theorem MotorRegs.directStep_targetRate (m : MotorRegs) (t : Tunables) : (m.directStep t).targetRate = m.targetRate :=
  by rw [MotorRegs.directStep]; simp

@[simp] theorem MotorRegs.directStep_currentRate (m : MotorRegs) (t : Tunables) : (m.directStep t).currentRate = m.currentRate :=
  by rw [MotorRegs.directStep]; simp

@[simp] theorem MotorRegs.directStep_encoderValue (m : MotorRegs) (t : Tunables) : (m.directStep t).encoderValue = m.encoderValue :=
  by rw [MotorRegs.directStep]; simp

@[simp] theorem MotorRegs.directStep_oldEnc (m : MotorRegs) (t : Tunables) : (m.directStep t).oldEnc = m.oldEnc :=
  by rw [MotorRegs.directStep]; simp

@[simp] theorem MotorRegs.directStep_currentDraw (m : MotorRegs) (t : Tunables) : (m.directStep t).currentDraw = m.currentDraw :=
  by rw [MotorRegs.directStep]; simp

@[simp] theorem MotorRegs.directStep_pidP (m : MotorRegs) (t : Tunables) : (m.directStep t).pidP = m.pidP :=
  by rw [MotorRegs.directStep]; simp

@[simp] theorem MotorRegs.directStep_pidI (m : MotorRegs) (t : Tunables) : (m.directStep t).pidI = m.pidI :=
  by rw [MotorRegs.directStep]; simp

@[simp] theorem MotorRegs.directStep_pidD (m : MotorRegs) (t : Tunables) : (m.directStep t).pidD = m.pidD :=
  by rw [MotorRegs.directStep]; simp

@[simp] theorem MotorRegs.directStep_outMode (m : MotorRegs) (t : Tunables) : (m.directStep t).outMode = m.outMode :=
  by rw [MotorRegs.directStep]; simp

@[simp] theorem MotorRegs.directStep_outDuty (m : MotorRegs) (t : Tunables) : (m.directStep t).outDuty = m.outDuty :=
  by rw [MotorRegs.directStep]; simp

@[simp] theorem MotorRegs.directStep_outPol (m : MotorRegs) (t : Tunables) : (m.directStep t).outPol = directionFlag m.control :=
  by rw [MotorRegs.directStep]; simp

@[simp] theorem MotorRegs.powerStep_setPower (m : MotorRegs) (t : Tunables) (r : Half) : (m.powerStep t r).setPower = m.setPower :=
  by unfold MotorRegs.powerStep; split <;> simp

@[simp] theorem MotorRegs.powerStep_targetRate (m : MotorRegs) (t : Tunables) (r : Half) : (m.powerStep t r).targetRate = m.targetRate :=
  by unfold MotorRegs.powerStep; split <;> simp

@[simp] theorem MotorRegs.powerStep_currentRate (m : MotorRegs) (t : Tunables) (r : Half) : (m.powerStep t r).currentRate = m.currentRate :=
  by unfold MotorRegs.powerStep; split <;> simp

@[simp] theorem MotorRegs.powerStep_encoderValue (m : MotorRegs) (t : Tunables) (r : Half) : (m.powerStep t r).encoderValue = m.encoderValue :=
  by unfold MotorRegs.powerStep; split <;> simp

@[simp] theorem MotorRegs.powerStep_oldEnc (m : MotorRegs) (t : Tunables) (r : Half) : (m.powerStep t r).oldEnc = m.oldEnc :=
  by unfold MotorRegs.powerStep; split <;> simp

@[simp] theorem MotorRegs.powerStep_currentDraw (m : MotorRegs) (t : Tunables) (r : Half) : (m.powerStep t r).currentDraw = m.currentDraw :=
  by unfold MotorRegs.powerStep; split <;> simp

@[simp] theorem MotorRegs.powerStep_outMode (m : MotorRegs) (t : Tunables) (r : Half) : (m.powerStep t r).outMode = m.outMode :=
  by unfold MotorRegs.powerStep; split <;> simp

@[simp] theorem MotorRegs.powerStep_outDuty (m : MotorRegs) (t : Tunables) (r : Half) : (m.powerStep t r).outDuty = m.outDuty :=
  by unfold MotorRegs.powerStep; split <;> simp

@[simp] theorem MotorRegs.tick_setPower (m : MotorRegs) (t : Tunables) (p : Params) : (m.tick t p).setPower = m.setPower :=
  by unfold MotorRegs.tick; dsimp only; split <;> simp

@[simp] theorem MotorRegs.tick_targetRate (m : MotorRegs) (t : Tunables) (p : Params) : (m.tick t p).targetRate = m.targetRate :=
  by unfold MotorRegs.tick; dsimp only; split <;> simp

@[simp] theorem MotorRegs.tick_encoderValue (m : MotorRegs) (t : Tunables) (p : Params) : (m.tick t p).encoderValue = m.encoderValue :=
  by unfold MotorRegs.tick; dsimp only; split <;> simp

@[simp] theorem MotorRegs.tick_currentDraw (m : MotorRegs) (t : Tunables) (p : Params) : (m.tick t p).currentDraw = m.currentDraw :=
  by unfold MotorRegs.tick; dsimp only; split <;> simp

@[simp] theorem MotorRegs.countEdge_control (m : MotorRegs) (b : Bool) : (m.countEdge b).control = m.control :=
  by unfold MotorRegs.countEdge; split <;> rfl

@[simp] theorem MotorRegs.countEdge_setPower (m : MotorRegs) (b : Bool) : (m.countEdge b).setPower = m.setPower :=
  by unfold MotorRegs.countEdge; split <;> rfl

@[simp] theorem MotorRegs.countEdge_currentPower (m : MotorRegs) (b : Bool) : (m.countEdge b).currentPower = m.currentPower :=
  by unfold MotorRegs.countEdge; split <;> rfl

@[simp] theorem MotorRegs.countEdge_scaledPower (m : MotorRegs) (b : Bool) : (m.countEdge b).scaledPower = m.scaledPower :=
  by unfold MotorRegs.countEdge; split <;> rfl

@[simp] theorem MotorRegs.countEdge_targetRate (m : MotorRegs) (b : Bool) : (m.countEdge b).targetRate = m.targetRate :=
  by unfold MotorRegs.countEdge; split <;> rfl

@[simp] theorem MotorRegs.countEdge_currentRate (m : MotorRegs) (b : Bool) : (m.countEdge b).currentRate = m.currentRate :=
  by unfold MotorRegs.countEdge; split <;> rfl

@[simp] theorem MotorRegs.countEdge_oldEnc (m : MotorRegs) (b : Bool) : (m.countEdge b).oldEnc = m.oldEnc :=
  by unfold MotorRegs.countEdge; split <;> rfl

@[simp] theorem MotorRegs.countEdge_currentDraw (m : MotorRegs) (b : Bool) : (m.countEdge b).currentDraw = m.currentDraw :=
  by unfold MotorRegs.countEdge; split <;> rfl

@[simp] theorem MotorRegs.countEdge_pidP (m : MotorRegs) (b : Bool) : (m.countEdge b).pidP = m.pidP :=
  by unfold MotorRegs.countEdge; split <;> rfl

@[simp] theorem MotorRegs.countEdge_pidI (m : MotorRegs) (b : Bool) : (m.countEdge b).pidI = m.pidI :=
  by unfold MotorRegs.countEdge; split <;> rfl

@[simp] theorem MotorRegs.countEdge_pidD (m : MotorRegs) (b : Bool) : (m.countEdge b).pidD = m.pidD :=
  by unfold MotorRegs.countEdge; split <;> rfl

@[simp] theorem MotorRegs.countEdge_outMode (m : MotorRegs) (b : Bool) : (m.countEdge b).outMode = m.outMode :=
  by unfold MotorRegs.countEdge; split <;> rfl

@[simp] theorem MotorRegs.countEdge_outDuty (m : MotorRegs) (b : Bool) : (m.countEdge b).outDuty = m.outDuty :=
  by unfold MotorRegs.countEdge; split <;> rfl

@[simp] theorem MotorRegs.countEdge_outPol (m : MotorRegs) (b : Bool) : (m.countEdge b).outPol = m.outPol :=
  by unfold MotorRegs.countEdge; split <;> rfl

@[simp] theorem MotorRegs.recordDraw_control (m : MotorRegs) (n v : Nat) : (m.recordDraw n v).control = setNewCurrent m.control :=
  by rw [MotorRegs.recordDraw]

@[simp] theorem MotorRegs.recordDraw_setPower (m : MotorRegs) (n v : Nat) : (m.recordDraw n v).setPower = m.setPower :=
  by rw [MotorRegs.recordDraw]

@[simp] theorem MotorRegs.recordDraw_currentPower (m : MotorRegs) (n v : Nat) : (m.recordDraw n v).currentPower = m.currentPower :=
  by rw [MotorRegs.recordDraw]

@[simp] theorem MotorRegs.recordDraw_scaledPower (m : MotorRegs) (n v : Nat) : (m.recordDraw n v).scaledPower = m.scaledPower :=
  by rw [MotorRegs.recordDraw]

@[simp] theorem MotorRegs.recordDraw_targetRate (m : MotorRegs) (n v : Nat) : (m.recordDraw n v).targetRate = m.targetRate :=
  by rw [MotorRegs.recordDraw]

@[simp] theorem MotorRegs.recordDraw_currentRate (m : MotorRegs) (n v : Nat) : (m.recordDraw n v).currentRate = m.currentRate :=
  by rw [MotorRegs.recordDraw]

@[simp] theorem MotorRegs.recordDraw_encoderValue (m : MotorRegs) (n v : Nat) : (m.recordDraw n v).encoderValue = m.encoderValue :=
  by rw [MotorRegs.recordDraw]

@[simp] theorem MotorRegs.recordDraw_oldEnc (m : MotorRegs) (n v : Nat) : (m.recordDraw n v).oldEnc = m.oldEnc :=
  by rw [MotorRegs.recordDraw]

@[simp] theorem MotorRegs.recordDraw_pidP (m : MotorRegs) (n v : Nat) : (m.recordDraw n v).pidP = m.pidP :=
  by rw [MotorRegs.recordDraw]

@[simp] theorem MotorRegs.recordDraw_pidI (m : MotorRegs) (n v : Nat) : (m.recordDraw n v).pidI = m.pidI :=
  by rw [MotorRegs.recordDraw]

@[simp] theorem MotorRegs.recordDraw_pidD (m : MotorRegs) (n v : Nat) : (m.recordDraw n v).pidD = m.pidD :=
  by rw [MotorRegs.recordDraw]

@[simp] theorem MotorRegs.recordDraw_outMode (m : MotorRegs) (n v : Nat) : (m.recordDraw n v).outMode = m.outMode :=
  by rw [MotorRegs.recordDraw]

@[simp] theorem MotorRegs.recordDraw_outDuty (m : MotorRegs) (n v : Nat) : (m.recordDraw n v).outDuty = m.outDuty :=
  by rw [MotorRegs.recordDraw]

@[simp] theorem MotorRegs.recordDraw_outPol (m : MotorRegs) (n v : Nat) : (m.recordDraw n v).outPol = m.outPol :=
  by rw [MotorRegs.recordDraw]

end Sys2Proof.Machine
end

