-- ==== Sys2Proof/Laws/Ops.lean ====
section
/-! SUPPORT. One lemma for each shared operation that says once what it can do; cite it instead of unfolding the
operation. -/

namespace Sys2Proof.Machine

/-! ### Outcomes and event entry (R365, R395) -/

@[simp] theorem andThen_next (s : State) (f : State → Result) : andThen (.next s) f = f s := rfl

@[simp] theorem andThen_fault (r : Fault) (f : State → Result) : andThen (.fault r) f = .fault r := rfl

@[simp] theorem andThen_refused (r : Refusal) (f : State → Result) : andThen (.refused r) f = .refused r := rfl

theorem andThen_eq_next {o : Result} {f : State → Result} {t : State} :
    andThen o f = .next t ↔ ∃ s, o = .next s ∧ f s = .next t := by
  cases o <;> simp

theorem andThen_assoc (o : Result) (f g : State → Result) :
    andThen (andThen o f) g = andThen o (fun s => andThen (f s) g) := by
  cases o <;> rfl

theorem whenRunning_running {s : State} (f : State → Result) (h : s.run = .running) :
    whenRunning f s = f s := by
  simp [whenRunning, h]

theorem whenRunning_halted {s : State} (f : State → Result) (h : s.run = .halted) :
    whenRunning f s = .next s := by
  simp [whenRunning, h]

theorem whenRunning_eq_next {f : State → Result} {s t : State} :
    whenRunning f s = .next t ↔ (s.run = .running ∧ f s = .next t) ∨ (s.run = .halted ∧ s = t) := by
  cases h : s.run <;> simp [whenRunning, h]

theorem execStartW_running {s : State} (h : s.run = .running) : execStartW s = .next s.startWrite :=
  whenRunning_running _ h

theorem execRx_running {s : State} (b : Byte) (h : s.run = .running) : execRx b s = s.receive b :=
  whenRunning_running _ h

theorem execEndW_running {s : State} (h : s.run = .running) : execEndW s = .next s.endWrite :=
  whenRunning_running _ h

theorem execReq_running {s : State} (h : s.run = .running) : execReq s = s.request := by
  simp [execReq, h]

theorem execTick_running {s : State} (h : s.run = .running) :
    execTick s = .next ((s.tickMotor .m1).tickMotor .m2) :=
  whenRunning_running _ h

/-! ### The address map (R110) -/

theorem regAt_addr (r : Reg) : regAt r.addr = some r := by
  cases r with
  | motor m r => cases m <;> cases r <;> rfl
  | _ => rfl

theorem addr_of_regAt {a : Byte} {r : Reg} (h : regAt a = some r) : r.addr = a := by
  have all : ∀ a : Byte, (regAt a).all (fun r => decide (r.addr = a)) = true := by decide
  simpa [h] using all a

theorem addr_injective {q r : Reg} (h : q.addr = r.addr) : q = r := by
  have hq := regAt_addr q
  rw [h, regAt_addr r] at hq
  exact (Option.some.inj hq).symm

theorem Reg.width_le (r : Reg) : r.width ≤ 4 := by
  cases r with
  | motor m r => cases r <;> simp [Reg.width, MotorReg.width]
  | _ => simp [Reg.width]

/-! ### Output stage and control byte (R331, R200) -/

/-- The drive mode `APPLY` chooses (R331, R333). -/
theorem MotorRegs.apply_outMode (m : MotorRegs) :
    m.apply.outMode =
      if m.currentPower = 0 then
        if brakeFlag m.control = true ∧ m.requested = false then .brake else .float
      else if m.currentPower = 255 then .full else .pwm := by
  unfold MotorRegs.apply
  split_ifs <;> simp_all

/-- `APPLY` establishes R53 (g) and R338 whatever the registers were. -/
theorem MotorRegs.apply_outputOk (m : MotorRegs) : m.apply.OutputOk := by
  simp only [MotorRegs.OutputOk, MotorRegs.apply_outMode, MotorRegs.apply_outDuty,
    MotorRegs.apply_currentPower]
  split_ifs <;> simp_all

/-- The braking policy asks for nothing that `APPLY` changes (R333). -/
theorem MotorRegs.apply_requested (m : MotorRegs) : m.apply.requested = m.requested := by
  unfold MotorRegs.requested MotorRegs.mode
  simp only [MotorRegs.apply_control, MotorRegs.apply_setPower, MotorRegs.apply_targetRate]

/-- `APPLY` twice is `APPLY` once (R331). -/
theorem MotorRegs.apply_apply_outMode (m : MotorRegs) : m.apply.apply.outMode = m.apply.outMode := by
  rw [MotorRegs.apply_outMode, MotorRegs.apply_outMode, MotorRegs.apply_requested]
  simp only [MotorRegs.apply_control, MotorRegs.apply_currentPower]

theorem modeOf_asControl (v : Byte) : modeOf (asControl v) = modeOf v := by
  simp [modeOf, asControl, speedFlag, modeFlag]

theorem modeOf_setNewCurrent (v : Byte) : modeOf (setNewCurrent v) = modeOf v := by
  simp [modeOf, setNewCurrent, speedFlag, modeFlag]

/-- `COMMIT_CONTROL` where the decoded mode stays: the byte and nothing else (R200). -/
theorem MotorRegs.commitControl_same {m : MotorRegs} {v : Byte} (h : modeOf v = m.mode) :
    m.commitControl v = { m with control := asControl v } := by
  simp [MotorRegs.commitControl, modeOf_asControl, h]

/-- `COMMIT_CONTROL` across a mode switch: the loop memory and the target are cleared as well (R200). -/
theorem MotorRegs.commitControl_switch {m : MotorRegs} {v : Byte} (h : modeOf v ≠ m.mode) :
    m.commitControl v = { m.clearLoop with control := asControl v } := by
  simp [MotorRegs.commitControl, modeOf_asControl, h]

/-! ### Register access (R76, R77) -/

/-- A read is defined exactly on the mapped addresses (R76). -/
theorem State.memRead_isSome (s : State) (a : Byte) : (s.memRead a).isSome = mapped a := by
  simp [State.memRead, mapped]

/-- Where the decode routines exist: the writable registers with a payload (R77). -/
theorem State.writeReg_isSome (s : State) (v : Nat) (r : Reg) :
    (s.writeReg v r).isSome = (r.writable && decide (0 < r.width)) := by
  cases r with
  | motor m r => cases r <;> rfl
  | _ => rfl

/-- What a decode routine changes: registers of one motor, or a tunable, or the save selector (R200 to R211,
R260, R264). -/
theorem State.writeReg_cases {s t : State} {v : Nat} {r : Reg} (h : s.writeReg v r = some t) :
    (∃ i m, t = s.setMotor i m ∧
      (m = (s.motor i).commitControl (asByte v) ∨ m = { s.motor i with setPower := asByte v } ∨
        m = { s.motor i with targetRate := asHalf v })) ∨
    (∃ tun : Tunables, t = { s with tun := tun } ∧
      (tun.busAddress = s.tun.busAddress ∨ tun.busAddress = asBusAddress (asByte v))) ∨
    t = { s with bus := { s.bus with saveSelector := asByte v } } := by
  cases r with
  | motor i r =>
    cases r <;> simp only [State.writeReg, MotorRegs.write, Option.map_some, Option.map_none,
      Option.some.injEq, reduceCtorEq] at h
    · exact .inl ⟨i, _, h.symm, .inl rfl⟩
    · exact .inl ⟨i, _, h.symm, .inr (.inl rfl)⟩
    · exact .inl ⟨i, _, h.symm, .inr (.inr rfl)⟩
  | settingsLoad => cases h
  | softReset => cases h
  | settingsSave => exact .inr (.inr (Option.some.inj h).symm)
  | busAddress => exact .inr (.inl ⟨_, (Option.some.inj h).symm, .inr rfl⟩)
  | _ => exact .inr (.inl ⟨_, (Option.some.inj h).symm, .inl rfl⟩)

/-! ### Write transactions (R171 to R175, R180) -/

/-- `RX` outside the address and data phases changes nothing (R175). -/
theorem State.receive_dropped {s : State} (b : Byte) (h : s.bus.rxPhase = .discard ∨ s.bus.rxPhase = .idle) :
    s.receive b = .next s := by
  rcases h with h | h <;> simp [State.receive, h]

/-- Everything `RX` can do: select, stage a byte, drop the rest, commit a field, or fault (R172 to R175). -/
theorem State.receive_next {s t : State} {b : Byte} (h : s.receive b = .next t) :
    t = s ∨ (s.bus.rxPhase = .addr ∧ t = s.rxAddress b) ∨
    (s.bus.rxPhase = .data ∧
      ∃ u : State, (u = s ∨ u = ({ s with bus := { s.bus with advPending := false } }).select
          (s.bus.activeAddr + 1)) ∧ u.stageByte b = .next t) ∨
    (s.bus.rxPhase = .data ∧
      t = ({ s with bus := { s.bus with advPending := false } }).setPhase .discard) := by
  unfold State.receive at h
  split at h
  case h_1 hp => exact .inr (.inl ⟨hp, (Host.Outcome.next.inj h).symm⟩)
  case h_2 hp =>
    unfold State.rxData at h
    split at h
    · dsimp only at h
      split at h
      · exact .inr (.inr (.inl ⟨hp, _, .inr rfl, h⟩))
      · exact .inr (.inr (.inr ⟨hp, (Host.Outcome.next.inj h).symm⟩))
    · exact .inr (.inr (.inl ⟨hp, s, .inl rfl, h⟩))
  all_goals exact .inl (Host.Outcome.next.inj h).symm

/-- Staging either keeps the byte or commits the field it completes (R174). -/
theorem State.stageByte_next {s t : State} {b : Byte} (h : s.stageByte b = .next t) :
    ∃ r, regAt s.bus.activeAddr = some r ∧
      ((s.bus.stage.length + 1 ≠ r.width ∧
          t = { s with bus := { s.bus with stage := s.bus.stage ++ [b] } }) ∨
        (s.bus.stage.length + 1 = r.width ∧
          ∃ u : State, s.writeReg (fromBE (s.bus.stage ++ [b])) r = some u ∧
            t = { u.markUpdated r with
              bus := { (u.markUpdated r).bus with stage := [], advPending := true } })) := by
  unfold State.stageByte at h
  cases hr : regAt s.bus.activeAddr with
  | none => simp [hr] at h
  | some r =>
    refine ⟨r, rfl, ?_⟩
    simp only [hr, List.length_append, List.length_singleton] at h
    split at h
    · rename_i hw
      unfold State.commitField at h
      cases hu : s.writeReg (fromBE (s.bus.stage ++ [b])) r with
      | none => simp [hu] at h
      | some u =>
        simp only [hu, Host.Outcome.next.injEq] at h
        exact .inr ⟨hw, u, rfl, h.symm⟩
    · exact .inl ⟨‹_›, (Host.Outcome.next.inj h).symm⟩

@[simp] theorem receiveAll_nil (s : State) : receiveAll [] s = .next s := rfl

@[simp] theorem receiveAll_cons (b : Byte) (bytes : List Byte) (s : State) :
    receiveAll (b :: bytes) s = andThen (execRx b s) (receiveAll bytes) := rfl

/-- The rest of a dropped transaction changes nothing (R175). -/
theorem receiveAll_discard {s : State} (bytes : List Byte) (h : s.bus.rxPhase = .discard) :
    receiveAll bytes s = .next s := by
  induction bytes with
  | nil => rfl
  | cons b bytes ih =>
    have hb : execRx b s = .next s := by
      cases hr : s.run with
      | running => rw [execRx_running b hr, s.receive_dropped b (.inl h)]
      | halted => exact whenRunning_halted _ hr
    rw [receiveAll_cons, hb, andThen_next, ih]

/-- A halted core drops every byte (R395). -/
theorem receiveAll_halted {s : State} (bytes : List Byte) (h : s.run = .halted) :
    receiveAll bytes s = .next s := by
  induction bytes with
  | nil => rfl
  | cons b bytes ih => rw [receiveAll_cons, execRx, whenRunning_halted _ h, andThen_next, ih]

/-- A halted core drops a whole transaction (R395). -/
theorem writeTransaction_halted {s : State} (bytes : List Byte) (h : s.run = .halted) :
    writeTransaction bytes s = .next s := by
  simp [writeTransaction, execStartW, execEndW, whenRunning_halted _ h, receiveAll_halted bytes h]

/-- A transaction on a running core, cut into its address byte, its value bytes and its end (R101). -/
theorem writeTransaction_running {s : State} (a : Byte) (bytes : List Byte) (h : s.run = .running) :
    writeTransaction (a :: bytes) s =
      andThen (receiveAll bytes (s.startWrite.rxAddress a)) execEndW := by
  have hs : s.startWrite.run = .running := h
  simp [writeTransaction, execStartW_running h, execRx_running a hs, State.receive]

/-- The end of a transaction without pending work (R180, R181). -/
theorem State.endWrite_of_updated_zero {s : State} (h : s.bus.updated = 0) :
    s.endWrite = s.ended s.bus.activeAddr := by
  simp [State.endWrite, State.processUpdated, State.updateIf, needsUpdate, h, State.closeTransaction,
    State.ended]

/-! ### Settings store (R263, R266, R268) -/

/-- A save without a selected group writes nothing (R266). -/
theorem State.save_none {s : State} {sel : Byte} (h : sel &&& 0x3F = 0) : s.save sel = s := by
  simp only [State.save, h, if_true]

/-- The groups of a store are at most the six of R113. -/
theorem NvStore.groups_and (nv : NvStore) : NvStore.groups nv &&& 0x3F = NvStore.groups nv := by
  unfold NvStore.groups
  split
  · rfl
  · rw [BitVec.and_assoc]; rfl

theorem loadedTunables_busAddress (nv : NvStore) (p : Params) :
    (loadedTunables nv p).busAddress.getLsbD 7 = false := by
  unfold loadedTunables
  dsimp only
  split
  · simp [asBusAddress]
  · simp

/-- What a load does to each motor: the recommitted control byte, then `UPDATE` with the loaded minimum power
(R268). -/
theorem State.load_motor (s : State) (i : MotorId) :
    s.load.motor i =
      ((s.motor i).commitControl (loadedControl s.nv s.params i ||| ((s.motor i).control &&& 0x20))).update
        (loadedTunables s.nv s.params).minPower := by
  cases i <;> rfl

end Sys2Proof.Machine
end

