-- ==== Sys2Proof/Laws/Codec.lean ====
section
/-! SUPPORT. Byte order: a field's big-endian bytes give the field back (spec/20_memory.md R72, R73). -/

namespace Sys2Proof

theorem fromBE_one (v : Byte) : BitVec.ofNat 8 (fromBE [v]) = v := by
  simp [fromBE]

theorem fromBE_be2 (v : Half) : BitVec.ofNat 16 (fromBE (be2 v)) = v := by
  simp [fromBE, be2]
  bv_omega

theorem fromBE_be4 (v : Word) : BitVec.ofNat 32 (fromBE (be4 v)) = v := by
  simp [fromBE, be4]
  bv_omega

theorem be2_length (v : Half) : (be2 v).length = 2 := rfl

theorem be4_length (v : Word) : (be4 v).length = 4 := rfl

theorem be2_fromBE (b0 b1 : Byte) : be2 (BitVec.ofNat 16 (fromBE [b0, b1])) = [b0, b1] := by
  simp only [fromBE, be2, List.foldl, List.cons.injEq, and_true]
  constructor <;>
    apply BitVec.eq_of_toNat_eq <;> simp [BitVec.extractLsb'_toNat, Nat.shiftRight_eq_div_pow] <;> omega

theorem be4_fromBE (b0 b1 b2 b3 : Byte) :
    be4 (BitVec.ofNat 32 (fromBE [b0, b1, b2, b3])) = [b0, b1, b2, b3] := by
  simp only [fromBE, be4, List.foldl, List.cons.injEq, and_true]
  refine ⟨?_, ?_, ?_, ?_⟩ <;>
    apply BitVec.eq_of_toNat_eq <;> simp [BitVec.extractLsb'_toNat, Nat.shiftRight_eq_div_pow] <;> omega

namespace Machine

theorem asByte_fromBE (v : Byte) : asByte (fromBE [v]) = v :=
  fromBE_one v

theorem asHalf_fromBE (v : Half) : asHalf (fromBE (be2 v)) = v :=
  fromBE_be2 v

theorem asPattern_fromBE (v : F32) : asPattern (fromBE (be4 v)) = v :=
  fromBE_be4 v

end Machine

end Sys2Proof
end

