-- ==== Sys2Proof/Laws/Control.lean ====
section
/-! SUPPORT. What one tick does in each mode, and what the invariant needs of the motor routines. -/

namespace Sys2Proof.Machine

/-! ### The tick, cut into measurement, power path and output stage (R292) -/

/-- The motor after the measurement of a tick: the rate step where ENCODER is set, else the motor itself. -/
def MotorRegs.measured (m : MotorRegs) (p : Params) : MotorRegs :=
  if encoderFlag m.control then m.rateStep p else m

theorem MotorRegs.tick_eq (m : MotorRegs) (t : Tunables) (p : Params) :
    m.tick t p = ((m.measured p).powerStep t m.currentRate).apply := rfl

theorem MotorRegs.measured_off {m : MotorRegs} (p : Params) (h : encoderFlag m.control = false) :
    m.measured p = m := by
  simp [MotorRegs.measured, h]

theorem MotorRegs.measured_on {m : MotorRegs} (p : Params) (h : encoderFlag m.control = true) :
    m.measured p = m.rateStep p := by
  simp [MotorRegs.measured, h]

/-- The measurement changes `current_rate` and `old_enc` only. -/
theorem MotorRegs.measured_eq (m : MotorRegs) (p : Params) :
    m.measured p =
      { m with currentRate := (m.measured p).currentRate, oldEnc := (m.measured p).oldEnc } := by
  unfold MotorRegs.measured
  split
  · rw [MotorRegs.rateStep]
  · rfl

theorem MotorRegs.measured_mode (m : MotorRegs) (p : Params) : (m.measured p).mode = m.mode := by
  rw [m.measured_eq]; rfl

theorem MotorRegs.powerStep_rate {m : MotorRegs} (t : Tunables) (r : Half) (h : m.mode = .rate) :
    m.powerStep t r = m.pidStep t r := by
  unfold MotorRegs.powerStep; rw [h]

theorem MotorRegs.powerStep_ramp {m : MotorRegs} (t : Tunables) (r : Half) (h : m.mode = .ramp) :
    m.powerStep t r = m.rampStep t := by
  unfold MotorRegs.powerStep; rw [h]

theorem MotorRegs.powerStep_direct {m : MotorRegs} (t : Tunables) (r : Half) (h : m.mode = .direct) :
    m.powerStep t r = m.directStep t := by
  unfold MotorRegs.powerStep; rw [h]

/-! ### The arithmetic of the power paths (R302, R303, R308) -/

/-- The RATE-mode power as a number: the larger of the rounded magnitude and the floor (R302). -/
theorem pidPower_toNat (sum : F32) (minPower : Byte) :
    (pidPower sum minPower).toNat = max (f2u8 (fabs sum)).toNat minPower.toNat := by
  unfold pidPower
  split <;> rename_i h <;> rw [BitVec.le_def] at h <;> omega

/-- A RATE-mode tick touches bit 4 of the control byte at most, so the mode stays (R303). -/
theorem pidDirection_other_bits (sum : F32) (c : Byte) :
    pidDirection sum c &&& 0xEF = c &&& 0xEF ∧ modeOf (pidDirection sum c) = modeOf c ∧
      encoderFlag (pidDirection sum c) = encoderFlag c := by
  have h : ∀ (c : Byte) (d : Bool), setDirection c d &&& 0xEF = c &&& 0xEF ∧
      modeOf (setDirection c d) = modeOf c ∧ encoderFlag (setDirection c d) = encoderFlag c := by decide
  unfold pidDirection
  split_ifs <;> first | exact h _ _ | exact ⟨rfl, rfl, rfl⟩

/-- One ramp step as numbers (R308). -/
theorem rampToward_toNat (c t r : Byte) :
    (rampToward c t r).toNat =
      if c.toNat < t.toNat then min (c.toNat + r.toNat) t.toNat
      else if t.toNat < c.toNat then max (c.toNat - r.toNat) t.toNat
      else c.toNat := by
  unfold rampToward
  simp only [BitVec.lt_def]
  split_ifs
  · rw [BitVec.toNat_ofNat]; omega
  · rw [BitVec.toNat_ofInt]; omega
  · rfl

/-- `rescale` of a non-zero request as a number (R142). -/
theorem rescale_toNat {f p : Byte} (h : p ≠ 0) :
    (rescale f p).toNat = f.toNat + p.toNat * (255 - f.toNat) / 255 := by
  have hd : p.toNat * (255 - f.toNat) / 255 ≤ 255 - f.toNat :=
    Nat.div_le_of_le_mul (Nat.mul_le_mul_right _ (by omega))
  rw [rescale, if_neg h, BitVec.toNat_ofNat]
  exact Nat.mod_eq_of_lt (by omega)

/-! ### What the invariant needs of the motor routines (R53) -/

theorem asControl_reserved (v : Byte) : (asControl v).extractLsb' 6 2 = 0 := by
  revert v; decide

theorem MotorRegs.commitControl_inv {m : MotorRegs} {p : Params} (v : Byte) (h : m.Inv p) :
    (m.commitControl v).Inv p := by
  obtain ⟨_, ht, ho, hd⟩ := h
  by_cases hm : modeOf v = m.mode
  · rw [MotorRegs.commitControl_same hm]
    refine ⟨asControl_reserved v, fun hn => ht ?_, ho, hd⟩
    rw [← hm, ← modeOf_asControl]
    exact hn
  · rw [MotorRegs.commitControl_switch hm]
    exact ⟨asControl_reserved v, fun _ => ⟨rfl, rfl, rfl⟩, ho, hd⟩

/-- `APPLY` turns the other clauses of the invariant into the whole of it. -/
theorem MotorRegs.apply_inv {m : MotorRegs} {p : Params} (hr : m.ReservedClear) (ht : m.TermsClear)
    (hd : m.DrawOk p) : m.apply.Inv p := by
  refine ⟨by simpa [MotorRegs.ReservedClear] using hr, ?_, m.apply_outputOk,
    by simpa [MotorRegs.DrawOk] using hd⟩
  simpa [MotorRegs.TermsClear, MotorRegs.mode] using ht

theorem MotorRegs.update_inv {m : MotorRegs} {p : Params} (f : Byte) (h : m.Inv p) : (m.update f).Inv p := by
  obtain ⟨hr, ht, _, hd⟩ := h
  unfold MotorRegs.update
  dsimp only
  split <;> exact MotorRegs.apply_inv hr ht hd

end Sys2Proof.Machine
end

