-- ==== Sys2Proof/Laws/Numerics.lean ====
section
/-! SUPPORT. The sign operations on binary32 patterns: what `fneg` does to the fields and to the value, so that a
statement about a sum becomes one about a difference (spec/40_numerics.md R147). -/

namespace Sys2Proof.Machine

@[simp] theorem expOf_fneg (a : F32) : expOf (fneg a) = expOf a := by
  unfold expOf fneg
  congr 1
  ext i hi
  simp
  interval_cases i <;> simp

@[simp] theorem fracOf_fneg (a : F32) : fracOf (fneg a) = fracOf a := by
  unfold fracOf fneg
  congr 1
  ext i hi
  simp
  interval_cases i <;> simp

@[simp] theorem signOf_fneg (a : F32) : signOf (fneg a) = !signOf a := by
  simp [signOf, fneg]

@[simp] theorem isNaN_fneg (a : F32) : isNaN (fneg a) = isNaN a := by
  simp [isNaN]

@[simp] theorem isInf_fneg (a : F32) : isInf (fneg a) = isInf a := by
  simp [isInf]

@[simp] theorem valueOf_fneg (a : F32) : valueOf (fneg a) = -valueOf a := by
  unfold valueOf magOf
  rw [expOf_fneg, fracOf_fneg, signOf_fneg]
  cases signOf a <;> simp

/-- A finite pattern is neither a NaN nor an infinity (R146). -/
theorem IsFinite.not_special {a : F32} (h : IsFinite a) : isNaN a = false ∧ isInf a = false := by
  simp [isNaN, isInf, h]

end Sys2Proof.Machine
end

