-- ==== Sys2Proof/Laws/PerInstr.lean ====
section
/-! SUPPORT. Statements made of every operation, one lemma per constructor. `EncodedRow`: the bytes of an operation
begin with the tag of its row's class and its row's `match` byte (spec/30_encoding.md R110, R121). -/

namespace Sys2Proof.Laws

/-- The tag byte of a row's class; an event has none. -/
def classTag : OpClass → List Byte
  | .write => [writeTag]
  | .read => [readTag]
  | .event => []

/-- The encoding begins with the class tag and the row's `match` byte. -/
def EncodedRow.Statement (i : Instr) : Prop :=
  ∃ operands : List Byte, encode i = classTag i.opClass ++ i.matchByte :: operands

theorem EncodedRow.wrM1Control (v : Byte) : EncodedRow.Statement (.wrM1Control v) := ⟨_, rfl⟩

theorem EncodedRow.wrM1Power (v : Byte) : EncodedRow.Statement (.wrM1Power v) := ⟨_, rfl⟩

theorem EncodedRow.wrM1TargetRate (v : Half) : EncodedRow.Statement (.wrM1TargetRate v) := ⟨_, rfl⟩

theorem EncodedRow.wrM2Control (v : Byte) : EncodedRow.Statement (.wrM2Control v) := ⟨_, rfl⟩

theorem EncodedRow.wrM2Power (v : Byte) : EncodedRow.Statement (.wrM2Power v) := ⟨_, rfl⟩

theorem EncodedRow.wrM2TargetRate (v : Half) : EncodedRow.Statement (.wrM2TargetRate v) := ⟨_, rfl⟩

theorem EncodedRow.wrPidKp (f : F32) : EncodedRow.Statement (.wrPidKp f) := ⟨_, rfl⟩

theorem EncodedRow.wrPidKi (f : F32) : EncodedRow.Statement (.wrPidKi f) := ⟨_, rfl⟩

theorem EncodedRow.wrPidKd (f : F32) : EncodedRow.Statement (.wrPidKd f) := ⟨_, rfl⟩

theorem EncodedRow.wrRampingRate (v : Byte) : EncodedRow.Statement (.wrRampingRate v) := ⟨_, rfl⟩

theorem EncodedRow.wrMinPower (v : Byte) : EncodedRow.Statement (.wrMinPower v) := ⟨_, rfl⟩

theorem EncodedRow.wrBusAddress (v : Byte) : EncodedRow.Statement (.wrBusAddress v) := ⟨_, rfl⟩

theorem EncodedRow.wrSettingsSave (v : Byte) : EncodedRow.Statement (.wrSettingsSave v) := ⟨_, rfl⟩

theorem EncodedRow.wrSettingsLoad : EncodedRow.Statement (.wrSettingsLoad) := ⟨_, rfl⟩

theorem EncodedRow.wrSoftReset : EncodedRow.Statement (.wrSoftReset) := ⟨_, rfl⟩

theorem EncodedRow.rdM1Control : EncodedRow.Statement (.rdM1Control) := ⟨_, rfl⟩

theorem EncodedRow.rdM1Power : EncodedRow.Statement (.rdM1Power) := ⟨_, rfl⟩

theorem EncodedRow.rdM1TargetRate : EncodedRow.Statement (.rdM1TargetRate) := ⟨_, rfl⟩

theorem EncodedRow.rdM1CurrentPower : EncodedRow.Statement (.rdM1CurrentPower) := ⟨_, rfl⟩

theorem EncodedRow.rdM1ScaledPower : EncodedRow.Statement (.rdM1ScaledPower) := ⟨_, rfl⟩

theorem EncodedRow.rdM1CurrentRate : EncodedRow.Statement (.rdM1CurrentRate) := ⟨_, rfl⟩

theorem EncodedRow.rdM1Encoder : EncodedRow.Statement (.rdM1Encoder) := ⟨_, rfl⟩

theorem EncodedRow.rdM1Current : EncodedRow.Statement (.rdM1Current) := ⟨_, rfl⟩

theorem EncodedRow.rdM1PidP : EncodedRow.Statement (.rdM1PidP) := ⟨_, rfl⟩

theorem EncodedRow.rdM1PidI : EncodedRow.Statement (.rdM1PidI) := ⟨_, rfl⟩

theorem EncodedRow.rdM1PidD : EncodedRow.Statement (.rdM1PidD) := ⟨_, rfl⟩

theorem EncodedRow.rdM2Control : EncodedRow.Statement (.rdM2Control) := ⟨_, rfl⟩

theorem EncodedRow.rdM2Power : EncodedRow.Statement (.rdM2Power) := ⟨_, rfl⟩

theorem EncodedRow.rdM2TargetRate : EncodedRow.Statement (.rdM2TargetRate) := ⟨_, rfl⟩

theorem EncodedRow.rdM2CurrentPower : EncodedRow.Statement (.rdM2CurrentPower) := ⟨_, rfl⟩

theorem EncodedRow.rdM2ScaledPower : EncodedRow.Statement (.rdM2ScaledPower) := ⟨_, rfl⟩

theorem EncodedRow.rdM2CurrentRate : EncodedRow.Statement (.rdM2CurrentRate) := ⟨_, rfl⟩

theorem EncodedRow.rdM2Encoder : EncodedRow.Statement (.rdM2Encoder) := ⟨_, rfl⟩

theorem EncodedRow.rdM2Current : EncodedRow.Statement (.rdM2Current) := ⟨_, rfl⟩

theorem EncodedRow.rdM2PidP : EncodedRow.Statement (.rdM2PidP) := ⟨_, rfl⟩

theorem EncodedRow.rdM2PidI : EncodedRow.Statement (.rdM2PidI) := ⟨_, rfl⟩

theorem EncodedRow.rdM2PidD : EncodedRow.Statement (.rdM2PidD) := ⟨_, rfl⟩

theorem EncodedRow.rdPidKp : EncodedRow.Statement (.rdPidKp) := ⟨_, rfl⟩

theorem EncodedRow.rdPidKi : EncodedRow.Statement (.rdPidKi) := ⟨_, rfl⟩

theorem EncodedRow.rdPidKd : EncodedRow.Statement (.rdPidKd) := ⟨_, rfl⟩

theorem EncodedRow.rdRampingRate : EncodedRow.Statement (.rdRampingRate) := ⟨_, rfl⟩

theorem EncodedRow.rdMinPower : EncodedRow.Statement (.rdMinPower) := ⟨_, rfl⟩

theorem EncodedRow.rdBusAddress : EncodedRow.Statement (.rdBusAddress) := ⟨_, rfl⟩

theorem EncodedRow.por : EncodedRow.Statement (.por) := ⟨_, rfl⟩

theorem EncodedRow.wdt : EncodedRow.Statement (.wdt) := ⟨_, rfl⟩

theorem EncodedRow.tick : EncodedRow.Statement (.tick) := ⟨_, rfl⟩

theorem EncodedRow.enc (m : MotorId) (b : Bool) : EncodedRow.Statement (.enc m b) := ⟨_, rfl⟩

theorem EncodedRow.adc (v : Nat) : EncodedRow.Statement (.adc v) := ⟨_, rfl⟩

theorem EncodedRow.startW : EncodedRow.Statement (.startW) := ⟨_, rfl⟩

theorem EncodedRow.rx (b : Byte) : EncodedRow.Statement (.rx b) := ⟨_, rfl⟩

theorem EncodedRow.endW : EncodedRow.Statement (.endW) := ⟨_, rfl⟩

theorem EncodedRow.req : EncodedRow.Statement (.req) := ⟨_, rfl⟩

end Sys2Proof.Laws
end

