-- ==== Sys2Proof/Laws/Trace.lean ====
section
/-! SUPPORT. Runs and transactions: a line of transport events is the transaction it stands for
(spec/30_encoding.md R101, R103), and what a transaction to a mapped register does on a running core. -/

namespace Sys2Proof.Machine

@[simp] theorem runAll_nil (s : State) : runAll [] s = .next s := rfl

@[simp] theorem runAll_cons (i : Instr) (rest : List Instr) (s : State) :
    runAll (i :: rest) s = andThen (exec i s) (runAll rest) := rfl

theorem runAll_append (l1 l2 : List Instr) (s : State) :
    runAll (l1 ++ l2) s = andThen (runAll l1 s) (runAll l2) := by
  induction l1 generalizing s with
  | nil => rfl
  | cons i l1 ih =>
    rw [List.cons_append, runAll_cons, runAll_cons, andThen_assoc]
    cases exec i s <;> simp [ih]

theorem runAll_bytes (bytes : List Byte) (s : State) : runAll (bytes.map .rx) s = receiveAll bytes s := by
  induction bytes generalizing s with
  | nil => rfl
  | cons b bytes ih =>
    rw [List.map_cons, runAll_cons, receiveAll_cons]
    cases h : execRx b s <;> simp [exec, h, ih]

/-- The line `W b0 … bn` is the write transaction with these bytes (R101). -/
theorem runAll_lineW (bytes : List Byte) (s : State) : runAll (lineW bytes) s = writeTransaction bytes s := by
  have h1 : ∀ s, runAll (bytes.map .rx ++ [.endW]) s = andThen (receiveAll bytes s) execEndW := by
    intro s
    rw [runAll_append, runAll_bytes]
    cases receiveAll bytes s with
    | next t => cases h : execEndW t <;> simp [exec, h]
    | _ => rfl
  rw [lineW, runAll_cons, writeTransaction]
  simp only [exec]
  cases execStartW s <;> simp [h1]

/-- The lines `SEL a` and `R` together are the read transaction (R103). -/
theorem runAll_lineRd (addr : Byte) (s : State) : runAll (lineRd addr) s = readTransaction addr s := by
  rw [lineRd, runAll_append, lineSel, runAll_lineW, readTransaction]
  cases writeTransaction [addr] s with
  | next t => cases h : execReq t <;> simp [lineR, exec, h]
  | _ => rfl

/-! ### The value bytes of one field (R174) -/

/-- A decode routine neither reads nor changes the staging buffer. -/
theorem State.writeReg_stage (s : State) (v : Nat) (r : Reg) (bytes : List Byte) :
    ({ s with bus := { s.bus with stage := bytes } } : State).writeReg v r =
      (s.writeReg v r).map (fun t => { t with bus := { t.bus with stage := bytes } }) := by
  cases r with
  | motor i r => cases i <;> cases r <;> rfl
  | _ => rfl

/-- A core receiving the value bytes of register `r`, with nothing staged yet. -/
def State.Receiving (s : State) (r : Reg) : Prop :=
  s.run = .running ∧ s.bus.rxPhase = .data ∧ s.bus.advPending = false ∧ s.bus.stage = [] ∧
    regAt s.bus.activeAddr = some r

/-- Fewer bytes than the field has are only staged. -/
theorem receiveAll_partial {s : State} {r : Reg} (bytes : List Byte) (hr : s.run = .running)
    (hp : s.bus.rxPhase = .data) (ha : s.bus.advPending = false) (hreg : regAt s.bus.activeAddr = some r)
    (hw : s.bus.stage.length + bytes.length < r.width) :
    receiveAll bytes s = .next { s with bus := { s.bus with stage := s.bus.stage ++ bytes } } := by
  induction bytes generalizing s with
  | nil => simp
  | cons b bytes ih =>
    have hlen : (s.bus.stage ++ [b]).length ≠ r.width := by simp at hw ⊢; omega
    have hb : execRx b s = .next { s with bus := { s.bus with stage := s.bus.stage ++ [b] } } := by
      rw [execRx_running b hr]
      simp only [State.receive, hp, State.rxData, ha, State.stageByte, hreg]
      rw [if_neg (by simp), if_neg hlen]
    rw [receiveAll_cons, hb, andThen_next]
    refine (ih (s := { s with bus := { s.bus with stage := s.bus.stage ++ [b] } }) hr hp ha hreg ?_).trans ?_
    · simp at hw ⊢; omega
    · simp

/-- The byte that completes a field commits it (R174). -/
theorem State.receive_last {s u : State} {r : Reg} {b : Byte} (hp : s.bus.rxPhase = .data)
    (ha : s.bus.advPending = false) (hreg : regAt s.bus.activeAddr = some r)
    (hw : s.bus.stage.length + 1 = r.width) (hu : s.writeReg (fromBE (s.bus.stage ++ [b])) r = some u) :
    s.receive b = .next { u.markUpdated r with
      bus := { (u.markUpdated r).bus with stage := [], advPending := true } } := by
  have hlen : (s.bus.stage ++ [b]).length = r.width := by simpa using hw
  simp only [State.receive, hp, State.rxData, ha, State.stageByte, hreg]
  rw [if_neg (by simp), if_pos hlen, State.commitField, hu]

/-- A whole field is committed by its last byte (R77, R174). -/
theorem receiveAll_field {s u : State} {r : Reg} {bytes : List Byte} (hs : s.Receiving r)
    (hw : bytes.length = r.width) (h0 : bytes ≠ []) (hu : s.writeReg (fromBE bytes) r = some u) :
    receiveAll bytes s = .next { u.markUpdated r with
      bus := { (u.markUpdated r).bus with stage := [], advPending := true } } := by
  obtain ⟨hr, hp, ha, hst, hreg⟩ := hs
  obtain ⟨init, last, rfl⟩ : ∃ init last, bytes = init ++ [last] :=
    ⟨bytes.dropLast, bytes.getLast h0, (List.dropLast_append_getLast h0).symm⟩
  have happ : ∀ (l : List Byte) (t : State), receiveAll (l ++ [last]) t =
      andThen (receiveAll l t) (execRx last) := by
    intro l
    induction l with
    | nil =>
      intro t
      rw [List.nil_append, receiveAll_cons, receiveAll_nil, andThen_next]
      cases h : execRx last t <;> simp
    | cons b l ih =>
      intro t
      rw [List.cons_append, receiveAll_cons, receiveAll_cons, andThen_assoc]
      cases h : execRx b t <;> simp [ih]
  have hlen : (init ++ [last]).length = r.width := hw
  rw [happ, receiveAll_partial init hr hp ha hreg (by simp [hst] at hw ⊢; omega), andThen_next, hst,
    List.nil_append]
  refine (execRx_running (s := { s with bus := { s.bus with stage := init } }) last hr).trans ?_
  refine (State.receive_last (s := { s with bus := { s.bus with stage := init } })
    (u := { u with bus := { u.bus with stage := init } }) hp ha hreg ?_ ?_).trans ?_
  · simpa using hw
  · rw [State.writeReg_stage, hu]; rfl
  · unfold State.markUpdated; split <;> rfl

/-- A transaction to a mapped register on a running core: the register is selected, the value bytes arrive, the
pending work is done (R101, R172, R180). -/
theorem writeTransaction_mapped {s : State} {r : Reg} (bytes : List Byte) (h : s.run = .running) :
    writeTransaction (r.addr :: bytes) s =
      andThen (receiveAll bytes (s.startWrite.selectReg r.addr r)) execEndW := by
  rw [writeTransaction_running r.addr bytes h, State.rxAddress, regAt_addr]

/-- A bare selection on a running core with no `updated` bit waiting (R172, R181). -/
theorem writeTransaction_select {s : State} {r : Reg} (hs : s.Ready)
    (h1 : r ≠ .settingsLoad) (h2 : r ≠ .softReset) :
    writeTransaction [r.addr] s = .next (s.ended r.addr) := by
  have hsel : s.startWrite.selectReg r.addr r = (s.startWrite.select r.addr).setPhase r.phaseAfterSelect := by
    cases r <;> first | rfl | contradiction
  rw [writeTransaction_mapped [] hs.1, hsel, receiveAll_nil, andThen_next,
    execEndW_running (by simpa using hs.1), State.endWrite_of_updated_zero (by simpa using hs.2)]
  rfl

/-- A read on a running core with no `updated` bit waiting: the register's block, and the protocol registers of
the selection (R103, R220). -/
theorem readTransaction_ready {s : State} {r : Reg} (hs : s.Ready)
    (h1 : r ≠ .settingsLoad) (h2 : r ≠ .softReset) :
    readTransaction r.addr s = .next { s.ended r.addr with readBlock := some (s.readReg r) } := by
  have hread : (s.ended r.addr).memRead r.addr = some (s.readReg r) := by
    rw [State.memRead, regAt_addr]
    cases r with
    | motor i r => cases i <;> rfl
    | _ => rfl
  rw [readTransaction, writeTransaction_select hs h1 h2, andThen_next,
    execReq_running (by simpa using hs.1), State.request, State.ended_bus_activeAddr, hread]

/-- Selecting a register that takes a payload leaves the core receiving its bytes (R172). -/
theorem State.startWrite_selectReg_receiving {s : State} {r : Reg} (h : s.run = .running)
    (hw : r.writable = true) (h0 : 0 < r.width) :
    s.startWrite.selectReg r.addr r = (s.startWrite.select r.addr).setPhase .data ∧
      ((s.startWrite.select r.addr).setPhase .data).Receiving r := by
  refine ⟨?_, by simpa using h, rfl, rfl, rfl, by simpa using regAt_addr r⟩
  cases r with
  | motor m r =>
    cases r <;> first | rfl | (simp [Reg.writable, Reg.access, MotorReg.access] at hw)
  | settingsLoad => simp [Reg.width] at h0
  | softReset => simp [Reg.width] at h0
  | _ => rfl

/-- A transaction that carries exactly one field, on a running core with no `updated` bit waiting: the field is
committed, then the transaction ends (R101, R174, R180). -/
theorem writeTransaction_field {s u : State} {r : Reg} {bytes : List Byte} (hs : s.Ready)
    (hw : bytes.length = r.width) (h0 : bytes ≠ [])
    (hu : ((s.startWrite.select r.addr).setPhase .data).writeReg (fromBE bytes) r = some u)
    (hrun : u.run = .running) :
    writeTransaction (r.addr :: bytes) s = .next (State.endWrite { u.markUpdated r with
      bus := { (u.markUpdated r).bus with stage := [], advPending := true } }) := by
  have hsome := State.writeReg_isSome ((s.startWrite.select r.addr).setPhase .data) (fromBE bytes) r
  rw [hu, Option.isSome_some, eq_comm, Bool.and_eq_true, decide_eq_true_eq] at hsome
  obtain ⟨hsel, hrec⟩ := State.startWrite_selectReg_receiving hs.1 hsome.1 hsome.2
  rw [writeTransaction_mapped bytes hs.1, hsel, receiveAll_field hrec hw h0 hu, andThen_next,
    execEndW_running (by simpa using hrun)]

end Sys2Proof.Machine
end

