-- ==== Sys2Proof/Tests/Slice0.lean ====
section
/-! SUPPORT. Small tests: the well-formedness smoke, a word of every operation written out from the spec's
encodings, one or two steps of every operation with the expected values of spec/95_test_vectors.md (the vector's
name stands with each test), and for each statement with hypotheses a witness that meets them. -/

namespace Sys2Proof.Machine.Tests

/-! ### Well-formedness -/

theorem test_wellFormed_refuses_wide_adc : (Instr.adc 65536).wellFormed = false := by decide

theorem test_wellFormed_accepts_widest_adc : (Instr.adc 65535).wellFormed = true := by decide

/-! ### Decoding: words written out from R102, R103, R110 and R121 -/

theorem test_decode_motor_writes :
    decode [0x57, 0x00, 0x01] = .ok (.wrM1Control 0x01, []) ∧
    decode [0x57, 0x01, 0xC8] = .ok (.wrM1Power 0xC8, []) ∧
    decode [0x57, 0x02, 0xFF, 0x9C] = .ok (.wrM1TargetRate 0xFF9C, []) ∧
    decode [0x57, 0x10, 0x09] = .ok (.wrM2Control 0x09, []) ∧
    decode [0x57, 0x11, 0x80] = .ok (.wrM2Power 0x80, []) ∧
    decode [0x57, 0x12, 0x80, 0x00] = .ok (.wrM2TargetRate 0x8000, []) := by decide

theorem test_decode_tunable_and_command_writes :
    decode [0x57, 0x20, 0x7F, 0xC0, 0x00, 0x01] = .ok (.wrPidKp 0x7FC00001, []) ∧
    decode [0x57, 0x21, 0x3C, 0xCC, 0xCC, 0xCD] = .ok (.wrPidKi 0x3CCCCCCD, []) ∧
    decode [0x57, 0x22, 0x3D, 0xCC, 0xCC, 0xCD] = .ok (.wrPidKd 0x3DCCCCCD, []) ∧
    decode [0x57, 0x23, 0x0A] = .ok (.wrRampingRate 0x0A, []) ∧
    decode [0x57, 0x24, 0x1E] = .ok (.wrMinPower 0x1E, []) ∧
    decode [0x57, 0x30, 0x2A] = .ok (.wrBusAddress 0x2A, []) ∧
    decode [0x57, 0x31, 0x3F] = .ok (.wrSettingsSave 0x3F, []) ∧
    decode [0x57, 0x32] = .ok (.wrSettingsLoad, []) ∧
    decode [0x57, 0x33] = .ok (.wrSoftReset, []) := by decide

theorem test_decode_motor_one_reads :
    decode [0x52, 0x00] = .ok (.rdM1Control, []) ∧
    decode [0x52, 0x01] = .ok (.rdM1Power, []) ∧
    decode [0x52, 0x02] = .ok (.rdM1TargetRate, []) ∧
    decode [0x52, 0x03] = .ok (.rdM1CurrentPower, []) ∧
    decode [0x52, 0x04] = .ok (.rdM1ScaledPower, []) ∧
    decode [0x52, 0x05] = .ok (.rdM1CurrentRate, []) := by decide

theorem test_decode_motor_one_wide_reads :
    decode [0x52, 0x06] = .ok (.rdM1Encoder, []) ∧
    decode [0x52, 0x07] = .ok (.rdM1Current, []) ∧
    decode [0x52, 0x08] = .ok (.rdM1PidP, []) ∧
    decode [0x52, 0x09] = .ok (.rdM1PidI, []) ∧
    decode [0x52, 0x0A] = .ok (.rdM1PidD, []) := by decide

theorem test_decode_motor_two_reads :
    decode [0x52, 0x10] = .ok (.rdM2Control, []) ∧
    decode [0x52, 0x11] = .ok (.rdM2Power, []) ∧
    decode [0x52, 0x12] = .ok (.rdM2TargetRate, []) ∧
    decode [0x52, 0x13] = .ok (.rdM2CurrentPower, []) ∧
    decode [0x52, 0x14] = .ok (.rdM2ScaledPower, []) ∧
    decode [0x52, 0x15] = .ok (.rdM2CurrentRate, []) := by decide

theorem test_decode_motor_two_wide_reads :
    decode [0x52, 0x16] = .ok (.rdM2Encoder, []) ∧
    decode [0x52, 0x17] = .ok (.rdM2Current, []) ∧
    decode [0x52, 0x18] = .ok (.rdM2PidP, []) ∧
    decode [0x52, 0x19] = .ok (.rdM2PidI, []) ∧
    decode [0x52, 0x1A] = .ok (.rdM2PidD, []) := by decide

theorem test_decode_global_reads :
    decode [0x52, 0x20] = .ok (.rdPidKp, []) ∧
    decode [0x52, 0x21] = .ok (.rdPidKi, []) ∧
    decode [0x52, 0x22] = .ok (.rdPidKd, []) ∧
    decode [0x52, 0x23] = .ok (.rdRampingRate, []) ∧
    decode [0x52, 0x24] = .ok (.rdMinPower, []) ∧
    decode [0x52, 0x30] = .ok (.rdBusAddress, []) := by decide

theorem test_decode_events :
    decode [0x00] = .ok (.por, []) ∧
    decode [0x01] = .ok (.wdt, []) ∧
    decode [0x02] = .ok (.tick, []) ∧
    decode [0x03, 0x00] = .ok (.enc .m1 false, []) ∧
    decode [0x03, 0x03] = .ok (.enc .m2 true, []) ∧
    decode [0x04, 0x01, 0x23] = .ok (.adc 291, []) ∧
    decode [0x05] = .ok (.startW, []) ∧
    decode [0x06, 0xC8] = .ok (.rx 0xC8, []) ∧
    decode [0x07] = .ok (.endW, []) ∧
    decode [0x08] = .ok (.req, []) := by decide

theorem test_decode_rejects_by_name :
    decode [] = .error .emptyTrace ∧
    decode [0x09] = .error (.unknownCode 0x09) ∧
    decode [0x03, 0x04] = .error (.reservedEncBits 0x04) ∧
    decode [0x04, 0x01] = .error (.truncated 0x04) ∧
    decode [0x57, 0x03] = .error (.notWritable 0x03) ∧
    decode [0x52, 0x31] = .error (.notReadable 0x31) := by decide

/-- A row of the table under its own numbering (notes/assumptions/3.md). -/
theorem test_decodeTableWord :
    decodeTableWord 8 0x02 = some .tick ∧
    decodeTableWord 8 0x33 = some .wrSoftReset ∧
    decodeTableWord 8 0x1A = some .rdM2PidD := by decide

/-! ### One step of every operation -/

/-- What is seen of the next state, `none` at a fault or a refusal. -/
def seen {α : Type} (i : Instr) (s : State) (f : State → α) : Option α :=
  match exec i s with
  | .next t => some (f t)
  | .fault _ => none
  | .refused _ => none

/-- The state after reset with other registers for motor 1. -/
def withM1 (m : MotorRegs) : State :=
  { State.reset with m1 := m }

/-- Vector W2. -/
theorem test_wrM1Control :
    seen (.wrM1Control 0xFF) State.reset (fun t => (t.m1.control, t.m1.outMode)) = some (0x3F, .brake) := by decide

/-- Vector E4. -/
theorem test_wrM1Control_mode_switch :
    seen (.wrM1Control 0x01)
        (withM1 { MotorRegs.cleared with control := 0x03, targetRate := 100, pidI := 0x40200000, currentPower := 53 })
        (fun t => (t.m1.targetRate, t.m1.pidI, t.m1.currentPower)) = some (0, 0, 53) := by decide

/-- Vector B1. -/
theorem test_wrM1Power :
    seen (.wrM1Power 0xC8) State.reset
        (fun t => (t.m1.setPower, t.m1.scaledPower, t.m1.currentPower, t.m1.outMode, t.bus.activeAddr)) =
      some (200, 204, 204, .pwm, 0x01) := by decide

/-- Vector W3. -/
theorem test_wrM1TargetRate :
    seen (.wrM1TargetRate 0xFF9C) State.reset (fun t => (t.m1.targetRate.toInt, t.bus.updated)) =
      some (-100, 0) := by decide

/-- Vector O1, on motor 2. -/
theorem test_wrM2Control :
    seen (.wrM2Control 0x08) State.reset (fun t => (t.m2.control, t.m2.outMode, t.m1.outMode)) =
      some (0x08, .brake, .float) := by decide

/-- Vector B18 (`scl` 137), in DIRECT mode. -/
theorem test_wrM2Power :
    seen (.wrM2Power 0x80) State.reset (fun t => (t.m2.setPower, t.m2.currentPower, t.m1.setPower)) =
      some (128, 137, 0) := by decide

/-- Vector W4. -/
theorem test_wrM2TargetRate :
    seen (.wrM2TargetRate 0x8000) State.reset (fun t => (t.m2.targetRate.toInt, t.m1.targetRate)) =
      some (-32768, 0) := by decide

/-- Vector W5. -/
theorem test_wrPidKp :
    seen (.wrPidKp 0x7FC00001) State.reset (fun t => (t.tun.kP, t.tun.kI)) =
      some (0x7FC00001, 0x3CCCCCCD) := by decide

/-- Vector B12. -/
theorem test_wrPidKi :
    seen (.wrPidKi 0x3D000000) State.reset (fun t => (t.tun.kI, t.tun.kP)) =
      some (0x3D000000, 0x3F000000) := by decide

/-- Vector B12. -/
theorem test_wrPidKd :
    seen (.wrPidKd 0x00000000) State.reset (fun t => (t.tun.kD, t.tun.kP)) = some (0, 0x3F000000) := by decide

/-- Vector S2. -/
theorem test_wrRampingRate :
    seen (.wrRampingRate 0x0A) State.reset (fun t => (t.tun.rampingRate, t.tun.minPower)) = some (10, 20) := by decide

/-- Vector W7. -/
theorem test_wrMinPower :
    seen (.wrMinPower 0x32)
        { State.reset with
          m1 := { MotorRegs.cleared with setPower := 100 }, m2 := { MotorRegs.cleared with setPower := 200 } }
        (fun t => (t.tun.minPower, t.m1.currentPower, t.m2.currentPower)) = some (50, 130, 210) := by decide

/-- Vector S11. -/
theorem test_wrBusAddress :
    seen (.wrBusAddress 0xAA) State.reset (fun t => t.tun.busAddress) = some 0x2A := by decide

/-- Vector S4, first save. -/
theorem test_wrSettingsSave_blank_store :
    seen (.wrSettingsSave 0x04) { State.reset with tun := { State.reset.tun with rampingRate := 10 } }
        (fun t => (t.nv.mask, t.nv.rampingRate, t.nv.minPower)) = some (0x04, 10, 0xFF) := by decide

/-- Vector S3. -/
theorem test_wrSettingsSave_selector_bits :
    seen (.wrSettingsSave 0xC0) State.reset (fun t => (t.nv.mask, t.bus.saveSelector)) = some (0xFF, 0xC0) := by decide

/-- Vector S5. -/
theorem test_wrSettingsLoad :
    seen .wrSettingsLoad
        { State.reset with
          m1 := { MotorRegs.cleared with control := 0x23, targetRate := 100, currentDraw := 7 }
          tun := { State.reset.tun with rampingRate := 10, minPower := 50 } }
        (fun t => (t.m1.control, t.m1.targetRate, t.m1.currentDraw, t.tun.rampingRate, t.tun.minPower)) =
      some (0x20, 0, 7, 5, 20) := by decide

/-- Vector S7. -/
theorem test_wrSettingsLoad_masks_slots :
    seen .wrSettingsLoad { State.reset with nv := { NvStore.blank with mask := 0x7F, kP := 0x7FC00000 } }
        (fun t => (t.m1.control, t.tun.busAddress, t.tun.kP, t.tun.minPower, t.m1.outMode)) =
      some (0x1F, 0x7F, 0x7FC00000, 0xFF, .brake) := by decide

/-- Vector S9. -/
theorem test_wrSoftReset :
    seen .wrSoftReset
        (withM1 { MotorRegs.cleared with
          setPower := 128, scaledPower := 137, currentPower := 137, outMode := .pwm, outDuty := 137 })
        (fun t => (t.run, t.m1.outMode, t.m1.outDuty)) = some (.halted, .pwm, 137) := by decide

/-- The state of vector RD1 after its tick, with motor 2 as in vectors B18 and RD4 and readings of its own. -/
def rd1 : State :=
  { State.reset with
    m1 :=
      { MotorRegs.cleared with
        control := 0x27, targetRate := 100, currentPower := 44, currentRate := 70, encoderValue := 7
        oldEnc := 7, currentDraw := 0x0123, pidP := 0x42480000, pidI := 0x3F400000, pidD := 0xC0E00000 }
    m2 :=
      { MotorRegs.cleared with
        control := 0x09, setPower := 0x80, targetRate := 0xFF9C, currentPower := 0x11, scaledPower := 0x89
        currentRate := 0xFFBA, encoderValue := 300, currentDraw := 0x03FF, pidP := 0x01020304
        pidI := 0x05060708, pidD := 0x090A0B0C } }

/-- The bytes of the block that a read of `rd1` answers. -/
def bytesOf (i : Instr) : Option (Option ReadBlock) :=
  seen i rd1 State.readBlock

/-- The table of vector RD1. -/
theorem test_motor_one_reads :
    bytesOf .rdM1Control = some (some ⟨0x27, 0x00, 0x00, 0x00⟩) ∧
    bytesOf .rdM1Power = some (some ⟨0x00, 0x00, 0x00, 0x00⟩) ∧
    bytesOf .rdM1TargetRate = some (some ⟨0x00, 0x64, 0x00, 0x00⟩) ∧
    bytesOf .rdM1CurrentPower = some (some ⟨0x2C, 0x00, 0x00, 0x00⟩) ∧
    bytesOf .rdM1ScaledPower = some (some ⟨0x00, 0x00, 0x00, 0x00⟩) ∧
    bytesOf .rdM1CurrentRate = some (some ⟨0x00, 0x46, 0x00, 0x00⟩) := by decide

/-- The table of vector RD1. -/
theorem test_motor_one_reads_wide :
    bytesOf .rdM1Encoder = some (some ⟨0x00, 0x00, 0x00, 0x07⟩) ∧
    bytesOf .rdM1Current = some (some ⟨0x01, 0x23, 0x00, 0x00⟩) ∧
    bytesOf .rdM1PidP = some (some ⟨0x42, 0x48, 0x00, 0x00⟩) ∧
    bytesOf .rdM1PidI = some (some ⟨0x3F, 0x40, 0x00, 0x00⟩) ∧
    bytesOf .rdM1PidD = some (some ⟨0xC0, 0xE0, 0x00, 0x00⟩) := by decide

/-- Vector B18; the current power is the test state's own. -/
theorem test_motor_two_reads :
    bytesOf .rdM2Control = some (some ⟨0x09, 0x00, 0x00, 0x00⟩) ∧
    bytesOf .rdM2Power = some (some ⟨0x80, 0x00, 0x00, 0x00⟩) ∧
    bytesOf .rdM2TargetRate = some (some ⟨0xFF, 0x9C, 0x00, 0x00⟩) ∧
    bytesOf .rdM2CurrentPower = some (some ⟨0x11, 0x00, 0x00, 0x00⟩) ∧
    bytesOf .rdM2ScaledPower = some (some ⟨0x89, 0x00, 0x00, 0x00⟩) ∧
    bytesOf .rdM2CurrentRate = some (some ⟨0xFF, 0xBA, 0x00, 0x00⟩) := by decide

/-- Vector RD4 for the encoder; big-endian by R72 and R73 for the others. -/
theorem test_motor_two_reads_wide :
    bytesOf .rdM2Encoder = some (some ⟨0x00, 0x00, 0x01, 0x2C⟩) ∧
    bytesOf .rdM2Current = some (some ⟨0x03, 0xFF, 0x00, 0x00⟩) ∧
    bytesOf .rdM2PidP = some (some ⟨0x01, 0x02, 0x03, 0x04⟩) ∧
    bytesOf .rdM2PidI = some (some ⟨0x05, 0x06, 0x07, 0x08⟩) ∧
    bytesOf .rdM2PidD = some (some ⟨0x09, 0x0A, 0x0B, 0x0C⟩) := by decide

/-- Vector RD7. -/
theorem test_global_reads :
    bytesOf .rdPidKp = some (some ⟨0x3F, 0x00, 0x00, 0x00⟩) ∧
    bytesOf .rdPidKi = some (some ⟨0x3C, 0xCC, 0xCC, 0xCD⟩) ∧
    bytesOf .rdPidKd = some (some ⟨0x3D, 0xCC, 0xCC, 0xCD⟩) ∧
    bytesOf .rdRampingRate = some (some ⟨0x05, 0x00, 0x00, 0x00⟩) ∧
    bytesOf .rdMinPower = some (some ⟨0x14, 0x00, 0x00, 0x00⟩) ∧
    bytesOf .rdBusAddress = some (some ⟨0x10, 0x00, 0x00, 0x00⟩) := by decide

/-- R412: a reset from a dirty halted state with a blank store. -/
theorem test_por :
    exec .por { rd1 with run := .halted, adcChan := .m2, bus := { BusRegs.cleared with activeAddr := 0x16 } } =
      .next State.reset := rfl

/-- Vector S1: the saved settings come back. -/
theorem test_wdt :
    seen .wdt { rd1 with nv := ⟨0x3F, 0x1F, 0x04, 0x0A, 0x32, 0x2A, 0x3F800000, 0x3CCCCCCD, 0x3DCCCCCD⟩ }
        (fun t => (t.m1.control, t.m2.control, t.tun.busAddress, t.tun.kP, t.m1.outMode, t.m2.outMode)) =
      some (0x1F, 0x04, 0x2A, 0x3F800000, .brake, .float) := by decide

/-- Vector E2. -/
theorem test_tick_rate_mode :
    seen .tick (withM1 { MotorRegs.cleared with control := 0x03, targetRate := 100 })
        (fun t => (t.m1.pidP, t.m1.pidI, t.m1.pidD, t.m1.currentPower, t.m1.control)) =
      some (0x42480000, 0x40200000, 0, 53, 0x03) := by decide

/-- Vector L4, ticks 17 and 18: the floor first, then the flip and the normal step. -/
theorem test_tick_reversal :
    seen .tick
        { State.reset with
          m1 := { MotorRegs.cleared with control := 0x19, setPower := 100, currentPower := 25 }
          m2 := { MotorRegs.cleared with control := 0x19, setPower := 100, currentPower := 20 } }
        (fun t => ((t.m1.currentPower, t.m1.outPol), (t.m2.currentPower, t.m2.outPol))) =
      some ((20, false), (25, true)) := by decide

/-- Vector EN3. -/
theorem test_enc_wraps :
    seen (.enc .m1 false) (withM1 { MotorRegs.cleared with control := 0x04, encoderValue := 2147483647 })
        (fun t => t.m1.encoderValue.toInt) = some (-2147483648) := by decide

/-- Vector EN5. -/
theorem test_enc_needs_the_flag :
    seen (.enc .m1 true) { State.reset with m2 := { MotorRegs.cleared with control := 0x04 } }
        (fun t => (t.m1.encoderValue, t.m2.encoderValue)) = some (0, 0) := by decide

/-- R355, its example, first conversion. -/
theorem test_adc :
    seen (.adc 291) State.reset (fun t => (t.m1.currentDraw, t.m1.control, t.adcChan)) =
      some (0x0123, 0x20, .m2) := by decide

/-- R355: the second channel, an operand wider than `ADC_BITS`. -/
theorem test_adc_drops_high_bits :
    seen (.adc 2047) { State.reset with adcChan := .m2 } (fun t => (t.m2.currentDraw, t.m2.control, t.adcChan)) =
      some (0x03FF, 0x20, .m1) := by decide

/-- A running core in the data phase of a transaction. -/
def receiving (addr : Byte) (stage : List Byte) (adv : Bool) : State :=
  { State.reset with
    bus := { BusRegs.cleared with activeAddr := addr, rxPhase := .data, stage := stage, advPending := adv } }

/-- R171: the staged byte is dropped, `updated` and `active_addr` stay. -/
theorem test_startW :
    seen .startW
        { receiving 0x02 [0x12] false with
          bus := { (receiving 0x02 [0x12] false).bus with updated := 0x0002 } }
        (fun t => t.bus) = some ⟨0x02, .addr, [], false, 0x0002, 0x00⟩ := by decide

/-- Vector B8: the commit sets `set_power` and bit 1 and nothing else yet. -/
theorem test_rx_commits :
    seen (.rx 0xC8) (receiving 0x01 [] false)
        (fun t => (t.m1.setPower, t.m1.scaledPower, t.bus.updated, t.bus.advPending)) = some (200, 0, 0x0002, true) := by decide

/-- Vector B2 and B3: from 0x01 into 0x02, from 0x02 not into the read-only 0x03. -/
theorem test_rx_advances :
    seen (.rx 0x00) (receiving 0x01 [] true) (fun t => (t.bus.activeAddr, t.bus.stage)) = some (0x02, [0x00]) ∧
    seen (.rx 0x77) (receiving 0x02 [] true) (fun t => (t.bus.activeAddr, t.bus.rxPhase)) =
      some (0x02, .discard) := by decide

/-- Vector B9: a bit left by an unfinished transaction is processed. -/
theorem test_endW :
    seen .endW { withM1 { MotorRegs.cleared with setPower := 200 } with
        bus := { BusRegs.cleared with activeAddr := 0x05, rxPhase := .discard, updated := 0x0002 } }
        (fun t => (t.m1.currentPower, t.bus.updated, t.bus.activeAddr)) = some (204, 0, 0x05) := by decide

/-- Vectors RD6 and S9: M1_CONTROL after reset; no data on a halted core. -/
theorem test_req :
    seen .req State.reset State.readBlock = some (some ⟨0x00, 0x00, 0x00, 0x00⟩) ∧
    seen .req { State.reset with run := .halted } State.readBlock = some none := by decide

/-- Vector RD2: a write-only address reads zeros. -/
theorem test_req_write_only :
    seen .req { State.reset with bus := { BusRegs.cleared with activeAddr := 0x31 } } State.readBlock =
      some (some ⟨0x00, 0x00, 0x00, 0x00⟩) := by decide

/-- R121: one operation of the trace is taken and run. -/
theorem test_step_runs_trace :
    step { State.reset with input := [0x01, 0x02] } = .next { State.reset with input := [0x02] } := rfl

/-- The first step on a row of the table runs that row. -/
theorem test_withFetchWord :
    step (State.reset.withFetchWord 8 0x33) = exec .wrSoftReset State.reset := rfl

/-- R367: `WDT` before `ENC 1` before `TICK` before bus events, whose own order stays. -/
theorem test_priority :
    serialise [.rx 0x01, .tick, .startW, .enc .m1 false, .wdt] =
      [.wdt, .enc .m1 false, .tick, .rx 0x01, .startW] := by decide

/-! ### Numerics (spec/95_test_vectors.md sections 2 and 3) -/

/-- Ties away from zero, saturation, NaN. -/
theorem test_conversions :
    f2u8 0x42520000 = 53 ∧ f2u8 0x437E7FFF = 254 ∧ (f2i16 0xC0200000).toInt = -3 ∧
      (f2i16 0xC7000080).toInt = -32768 ∧ f2i16 0x7FC00000 = 0 := by decide

/-- Section 2, arithmetic. -/
theorem test_products_and_sums :
    fmul 0x3CCCCCCD 0x42C80000 = 0x40200000 ∧ fadd 0x40200000 0x3FA00000 = 0x40700000 ∧
      fmul 0x7FC00001 0x42C80000 = 0x7FC00000 ∧ fdiv 0x3F800000 0x00000000 = 0x7F800000 := by decide

/-- Section 3. -/
theorem test_rate_of :
    rateOf Params.default 10 = 100 ∧ (rateOf Params.default (-7)).toInt = -70 ∧
      rateOf { Params.default with ticksPerRev := 64 } 2 = 188 := by decide

/-- R148: the zeros compare equal, a NaN with nothing, infinities lie outside; `fabs` of a NaN keeps its other bits. -/
theorem test_comparison :
    flt 0x00000000 0x80000000 = false ∧ flt 0x80000000 0x00000000 = false ∧ flt 0x7FC00000 0x3F800000 = false ∧
      flt 0xFF800000 0xFF7FFFFF = true ∧ flt 0x7F7FFFFF 0x7F800000 = true ∧ fabs 0xFFC00001 = 0x7FC00001 := by decide

/-- Section 2, rescale. -/
theorem test_rescale :
    rescale 20 200 = 204 ∧ rescale 255 1 = 255 ∧ rescale 0 77 = 77 ∧ rescale 20 0 = 0 := by decide

/-! ### Witnesses: states and operands that meet the hypotheses of the statements -/

theorem witness_DecodeInvertsEncode : (Instr.adc 65535).WellFormed := by decide

theorem witness_EncodeInvertsDecode : decode [0x03, 0x02, 0x08] = .ok (.enc .m2 false, [0x08]) := by decide

/-- The three clauses: a decodable trace, an empty one, one that encodes nothing. -/
theorem witness_StepRunsDecodedOperation :
    decode ({ State.reset with input := [0x02] } : State).input = .ok (.tick, []) ∧
    State.reset.input = [] ∧
    ({ State.reset with input := [0x09] } : State).input ≠ [] ∧
    decode ({ State.reset with input := [0x09] } : State).input = .error (.unknownCode 0x09) := by decide

/-- Also the hypothesis of the first clauses of `TickRunsBothMotors`, `EdgeCountsByTheCompanionLevel`,
`ConversionGoesToTheSelectedMotor` and `EndWriteRunsPendingWorkInOrder`. -/
theorem witness_StartWriteOpensTransaction : State.reset.run = .running := by decide

theorem witness_EndWriteRunsPendingWorkInOrder : State.reset.run = .running := by decide

theorem witness_TickRunsBothMotors :
    State.reset.run = .running ∧ ({ State.reset with run := .halted } : State).run = .halted := by decide

theorem witness_EdgeCountsByTheCompanionLevel :
    State.reset.run = .running ∧ ({ State.reset with run := .halted } : State).run = .halted := by decide

theorem witness_ConversionGoesToTheSelectedMotor :
    State.reset.run = .running ∧ ({ State.reset with run := .halted } : State).run = .halted := by decide

/-- The address phase, and a byte for each clause, at the ends of the unmapped gaps and of the command addresses. -/
theorem witness_AddressByteSelectsRegister :
    let s : State := { State.reset with bus := { BusRegs.cleared with rxPhase := .addr } }
    s.run = .running ∧ s.bus.rxPhase = .addr ∧
    (regAt 0x0B = none ∧ regAt 0x34 = none ∧ regAt 0xFF = none) ∧
    (regAt 0x31 = some .settingsSave ∧ Reg.settingsSave.access ≠ .readOnly ∧ (0x31 : Byte) ≠ 0x32) ∧
    (regAt 0x02 = some (.motor .m1 .targetRate) ∧ (Reg.motor .m1 .targetRate).access ≠ .readOnly) ∧
    (regAt 0x03 = some (.motor .m1 .currentPower) ∧ (Reg.motor .m1 .currentPower).access = .readOnly) := by
  decide

/-- Both clauses, at the last address that advances and the first that does not. -/
theorem witness_NextByteAdvancesActiveAddress :
    let s := receiving 0x01 [] true
    let t := receiving 0x02 [] true
    (s.run = .running ∧ s.bus.rxPhase = .data ∧ s.bus.advPending = true ∧
      dataWritable s.bus.activeAddr = true ∧ dataWritable (s.bus.activeAddr + 1) = true) ∧
    (t.run = .running ∧ t.bus.rxPhase = .data ∧ t.bus.advPending = true ∧
      ¬(dataWritable t.bus.activeAddr = true ∧ dataWritable (t.bus.activeAddr + 1) = true)) := by
  decide

/-- Both clauses, at the third and at the fourth byte of a four-byte field. -/
theorem witness_ValueByteIsStagedOrCommits :
    let s := receiving 0x20 [0x3F, 0x80] false
    let t := receiving 0x20 [0x3F, 0x80, 0x00] false
    (s.run = .running ∧ s.bus.rxPhase = .data ∧ s.bus.advPending = false ∧
      regAt s.bus.activeAddr = some .pidKp ∧ s.bus.stage.length + 1 < Reg.pidKp.width) ∧
    (t.run = .running ∧ t.bus.rxPhase = .data ∧ t.bus.advPending = false ∧
      regAt t.bus.activeAddr = some .pidKp ∧ t.bus.stage.length + 1 = Reg.pidKp.width ∧
      t.writeReg (fromBE (t.bus.stage ++ [0x00])) .pidKp =
        some { t with tun := { t.tun with kP := 0x3F800000 } } ∧
      Reg.pidKp.updatedBit = some 6) := by
  decide

theorem witness_BytesOutsideAFieldAreDropped :
    let s : State := { State.reset with bus := { BusRegs.cleared with rxPhase := .discard } }
    s.run = .running ∧ s.bus.rxPhase = .discard ∧ State.reset.bus.rxPhase = .idle := by
  decide

theorem witness_PartialFieldIsNotApplied :
    State.reset.Ready ∧ Reg.pidKp.access ≠ .readOnly ∧ [0x3F, 0x80, (0x00 : Byte)].length < Reg.pidKp.width := by
  decide

theorem witness_ReadOnlyAndUnmappedWritesAreDropped :
    State.reset.Ready ∧ (Reg.motor .m1 .encoder).access = .readOnly ∧ regAt 0x25 = none := by
  decide

/-- The three clauses: a mapped register, the write-only addresses, a halted core. -/
theorem witness_RequestAnswersTheActiveRegister :
    State.reset.run = .running ∧ mapped State.reset.bus.activeAddr = true ∧
      ((State.reset.select 0x31).run = .running ∧ (State.reset.select 0x31).bus.activeAddr = 0x31) ∧
      ((State.reset.select 0x33).run = .running ∧ (State.reset.select 0x33).bus.activeAddr = 0x33) ∧
      ({ State.reset with run := .halted } : State).run = .halted := by
  decide

theorem witness_WriteThenReadReturnsTheField :
    State.reset.Ready ∧ Reg.busAddress.access = .readWrite ∧ [(0xAA : Byte)].length = Reg.busAddress.width := by
  decide

theorem witness_MotorBurstWritesThreeRegisters : State.reset.Ready := by decide

theorem witness_ControlWriteCommitsAndUpdates : State.reset.Ready := by decide

theorem witness_PowerWriteSetsRequestAndUpdates : State.reset.Ready := by decide

theorem witness_TargetRateWriteStoresOnly : State.reset.Ready := by decide

theorem witness_GainWriteStoresPatternUnchanged : State.reset.Ready := by decide

theorem witness_RampingRateAndMinPowerWrites : State.reset.Ready := by decide

theorem witness_BusAddressWriteDropsBitSeven : State.reset.Ready := by decide

theorem witness_SettingsLoadReplacesEveryTunable : State.reset.Ready := by decide

theorem witness_SoftResetHaltsAndHoldsEverything : State.reset.Ready := by decide

theorem witness_MotorOneReadsAnswerTheirRegisters : State.reset.Ready := by decide

theorem witness_MotorTwoReadsAnswerTheirRegisters : State.reset.Ready := by decide

theorem witness_GlobalReadsAnswerTheirRegisters : State.reset.Ready := by decide

/-- Both clauses: a selector that selects nothing and the widest one. -/
theorem witness_SettingsSaveWritesSelectedSlots :
    State.reset.Ready ∧ (0xC0 : Byte) &&& 0x3F = 0 ∧ (0xFF : Byte) &&& 0x3F ≠ 0 := by
  decide

/-- A motor in RATE mode, ENCODER clear. -/
def rateMotor : MotorRegs :=
  { MotorRegs.cleared with control := 0x03, targetRate := 100 }

/-- A motor in RAMP mode. -/
def rampMotor : MotorRegs :=
  { MotorRegs.cleared with control := 0x01, setPower := 200 }

theorem witness_TickMeasuresTheRate :
    encoderFlag ({ MotorRegs.cleared with control := 0x04 } : MotorRegs).control = true ∧
      encoderFlag MotorRegs.cleared.control = false := by
  decide

theorem witness_RateTickComputesThePidTerms : rateMotor.mode = .rate := by decide

theorem witness_RateTickPowerHasTheFloor : rateMotor.mode = .rate := by decide

/-- The terms that a tick of a RATE-mode motor leaves. -/
def termsAfterTick (target : Half) : F32 × F32 × F32 :=
  let m := { rateMotor with targetRate := target }.tick State.reset.tun Params.default
  (m.pidP, m.pidI, m.pidD)

/-- The three cases of the direction, by vectors E2, L10 and L7: sums 52.5, -52.5 and 0. -/
theorem witness_RateTickDirectionFollowsTheSum :
    rateMotor.mode = .rate ∧
    (termsAfterTick 0x0064 = (0x42480000, 0x40200000, 0x00000000) ∧
      fadd (fadd 0x42480000 0x40200000) 0x00000000 = 0x42520000 ∧ flt 0x00000000 0x42520000 = true) ∧
    (termsAfterTick 0xFF9C = (0xC2480000, 0xC0200000, 0x00000000) ∧
      fadd (fadd 0xC2480000 0xC0200000) 0x00000000 = 0xC2520000 ∧ flt 0xC2520000 0x00000000 = true) ∧
    (termsAfterTick 0x0000 = (0x00000000, 0x00000000, 0x00000000) ∧
      fadd (fadd 0x00000000 0x00000000) 0x00000000 = 0x00000000 ∧
      flt 0x00000000 0x00000000 = false) := by
  decide

theorem witness_IntegralAccumulatesOncePerTick :
    rateMotor.mode = .rate ∧ encoderFlag rateMotor.control = false := by
  decide

/-- Both clauses of the ramp, at the power just above the floor and at the floor. -/
theorem witness_RampTickStepsOrTurns :
    let m := { rampMotor with control := 0x11, currentPower := 21 }
    let n := { rampMotor with control := 0x11, currentPower := 20 }
    (m.mode = .ramp ∧ m.outPol ≠ directionFlag m.control ∧
      State.reset.tun.minPower.toNat < m.currentPower.toNat) ∧
    (n.mode = .ramp ∧ n.outPol ≠ directionFlag n.control ∧
      n.currentPower.toNat ≤ State.reset.tun.minPower.toNat) ∧
    (rampMotor.mode = .ramp ∧ rampMotor.outPol = directionFlag rampMotor.control) := by
  decide

theorem witness_RampTickMovesAtMostTheRate : rampMotor.mode = .ramp := by decide

/-- From below and from above the target. -/
theorem witness_RampMovesByTheRateTowardItsTarget :
    let g := (rescale State.reset.tun.minPower rampMotor.setPower).toNat
    rampMotor.mode = .ramp ∧ rampMotor.outPol = directionFlag rampMotor.control ∧
      rampMotor.currentPower.toNat ≤ g ∧ g ≤ ({ rampMotor with currentPower := 255 } : MotorRegs).currentPower.toNat := by
  decide

theorem witness_DirectTickPassesTheRequestThrough : MotorRegs.cleared.mode = .direct := by decide

theorem witness_TickFrame : MotorRegs.cleared.mode ≠ .rate ∧ rateMotor.mode = .rate := by decide

/-- Zero, the smallest request, 255, and a small request whose product stays below 255. -/
theorem witness_RescaleMapsIntoTheUsableRange :
    (1 : Byte) ≠ 0 ∧ (1 : Byte).toNat * (255 - (20 : Byte).toNat) < 255 := by
  decide

/-- Operands of a sum and of a difference, with an exact zero sum of opposite signs and an exact zero difference of
one sign. -/
theorem witness_SumIsRoundedOnce :
    IsFinite 0x3F800000 ∧ IsFinite 0xBF800000 ∧
      valueOf 0x3F800000 + valueOf 0xBF800000 = 0 ∧ signOf 0x3F800000 ≠ signOf 0xBF800000 ∧
      valueOf 0x3F800000 - valueOf 0x3F800000 = 0 ∧ signOf 0x3F800000 = signOf 0x3F800000 := by
  decide

theorem witness_ProductIsRoundedOnce : IsFinite 0x7F7FFFFF ∧ IsFinite 0x00000001 := by decide

theorem witness_QuotientIsRoundedOnce :
    IsFinite 0x3F800000 ∧ IsFinite 0x80000001 ∧ valueOf 0x80000001 ≠ 0 := by
  decide

/-- The bounds of both ranges. -/
theorem witness_IntegerConversionIsRoundedOnce :
    (-2147483648 : Int).natAbs ≤ 2 ^ 31 ∧ (16777216 : Int).natAbs ≤ 16777216 := by
  decide

/-- A NaN, infinities of both signs, a finite value, a zero. -/
theorem witness_SpecialOperandsFollowIeee :
    isNaN 0x7FC00001 = true ∧ isInf 0x7F800000 = true ∧ isInf 0xFF800000 = true ∧
      signOf 0x7F800000 = signOf 0x7F800000 ∧ signOf 0x7F800000 ≠ signOf 0xFF800000 ∧
      IsFinite 0x7F7FFFFF ∧ isZero 0x80000000 = true := by
  decide

theorem witness_ConversionRoundsAwayAndSaturates :
    isNaN 0x7FC00000 = true ∧ (isInf 0x7F800000 = true ∧ signOf 0x7F800000 = false) ∧
      (isInf 0xFF800000 = true ∧ signOf 0xFF800000 = true) ∧ IsFinite 0xC0200000 := by
  decide

/-- A step that runs, by an operation that is no reset, with no save waiting. -/
theorem witness_MeasurementsAndStoreHaveTheirWriters :
    exec .startW State.reset = .next State.reset.startWrite ∧ NotReset .startW ∧
      State.reset.bus.updated.getLsbD 12 = false := by
  refine ⟨rfl, ⟨by decide, by decide⟩, by decide⟩

theorem witness_HaltedCoreIgnoresEverythingButResets :
    ({ State.reset with run := .halted } : State).run = .halted ∧ ∀ i ∈ [Instr.tick, .req], NotReset i := by
  refine ⟨by decide, fun i hi => ?_⟩
  fin_cases hi <;> exact ⟨by decide, by decide⟩

theorem witness_ResetWithABlankStoreIsTheResetState :
    State.reset.params = Params.default ∧ State.reset.nv.mask.getLsbD 7 = true := by
  decide

theorem witness_SaveThenLoadKeepsTheSettings : State.reset.Inv := by decide

theorem witness_EveryStepKeepsTheInvariant :
    let s : State := { State.reset with input := [0x07] }
    s.Inv ∧ step s = .next State.reset :=
  ⟨by decide, rfl⟩

theorem witness_NoStepFaultsUnderTheInvariant : State.reset.Inv := by decide

end Sys2Proof.Machine.Tests
end

section
/-! The step function: one equation per branch, each with its condition on the input trace, and the statement of
00_scope.md assembled from them. -/

namespace Sys2Proof.Machine

/-! ### The head of the trace -/

/-- An empty trace holds no operation. -/
@[simp] theorem decode_nil : decode [] = .error .emptyTrace := rfl

/-- `fetch` reads the trace and no other field. -/
theorem State.fetch_eq_decode (s : State) : s.fetch = decode s.input := rfl

theorem ne_nil_of_decode_ok {bytes : List Byte} {i : Instr} {rest : List Byte}
    (hdec : decode bytes = .ok (i, rest)) : bytes ≠ [] := by
  rintro rfl
  simp at hdec

/-! ### The branches of a step -/

/-- R373, R403: between events the core is idle. -/
theorem step_of_input_nil {s : State} (hnil : s.input = []) : step s = .next s := by
  simp only [step, hnil]

/-- R16, R365: the event at the head of the trace is taken from it and its handler applied. -/
theorem step_of_decode_ok {s : State} {i : Instr} {rest : List Byte}
    (hdec : decode s.input = .ok (i, rest)) : step s = exec i { s with input := rest } := by
  obtain ⟨c, cs, hcons⟩ := List.exists_cons_of_ne_nil (ne_nil_of_decode_ok hdec)
  have hfetch : s.fetch = .ok (i, rest) := s.fetch_eq_decode.trans hdec
  simp only [step, hcons, hfetch]

/-- notes/assumptions/10.md: bytes that encode no operation are refused with the decoder's reason. An empty trace
has a decode error too, and idles: hence the hypothesis `hne`. -/
theorem step_of_decode_error {s : State} {e : DecodeError} (hne : s.input ≠ [])
    (hdec : decode s.input = .error e) : step s = .refused (.malformedTrace e) := by
  obtain ⟨c, cs, hcons⟩ := List.exists_cons_of_ne_nil hne
  have hfetch : s.fetch = .error e := s.fetch_eq_decode.trans hdec
  simp only [step, hcons, hfetch]

/-- Settles O1: the three branches of `step`, told apart by what the trace decodes to. -/
theorem stepRunsDecodedOperation : Obligations.StepRunsDecodedOperation := by
  unfold Obligations.StepRunsDecodedOperation
  refine ⟨?decodable, ?empty, ?undecodable⟩
  case decodable => exact fun _ _ _ hdec => step_of_decode_ok hdec
  case empty => exact fun _ hnil => step_of_input_nil hnil
  case undecodable => exact fun _ _ hne hdec => step_of_decode_error hne hdec

end Sys2Proof.Machine
end

section
/-! The control tick: its frame by mode, and the invariant of R53 across it. -/

namespace Sys2Proof.Machine

/-! ### What the measurement leaves alone -/

@[simp] theorem MotorRegs.measured_control (m : MotorRegs) (p : Params) : (m.measured p).control = m.control := by
  rw [m.measured_eq]

@[simp] theorem MotorRegs.measured_scaledPower (m : MotorRegs) (p : Params) :
    (m.measured p).scaledPower = m.scaledPower := by
  rw [m.measured_eq]

@[simp] theorem MotorRegs.measured_currentDraw (m : MotorRegs) (p : Params) :
    (m.measured p).currentDraw = m.currentDraw := by
  rw [m.measured_eq]

@[simp] theorem MotorRegs.measured_pidP (m : MotorRegs) (p : Params) : (m.measured p).pidP = m.pidP := by
  rw [m.measured_eq]

@[simp] theorem MotorRegs.measured_pidI (m : MotorRegs) (p : Params) : (m.measured p).pidI = m.pidI := by
  rw [m.measured_eq]

@[simp] theorem MotorRegs.measured_pidD (m : MotorRegs) (p : Params) : (m.measured p).pidD = m.pidD := by
  rw [m.measured_eq]

/-! ### The power path by mode (R292) -/

/-- Only the PID step writes the control byte (R303). -/
theorem MotorRegs.pidStep_control (m : MotorRegs) (t : Tunables) (r : Half) :
    (m.pidStep t r).control = pidDirection (m.pidTerms t r).pidSum m.control := by
  rw [MotorRegs.pidStep, MotorRegs.pidTerms_control]

/-- Outside RATE mode the power path leaves the control byte and the loop memory alone (R292). -/
theorem MotorRegs.powerStep_of_ne_rate {m : MotorRegs} (t : Tunables) (r : Half) (h : m.mode ≠ .rate) :
    (m.powerStep t r).control = m.control ∧ (m.powerStep t r).pidP = m.pidP ∧
      (m.powerStep t r).pidI = m.pidI ∧ (m.powerStep t r).pidD = m.pidD := by
  cases hm : m.mode with
  | rate => exact absurd hm h
  | ramp => simp [MotorRegs.powerStep_ramp t r hm]
  | direct => simp [MotorRegs.powerStep_direct t r hm]

/-- The power path touches bit 4 of the control byte, DIRECTION, at most (R303). -/
theorem MotorRegs.powerStep_control_other_bits (m : MotorRegs) (t : Tunables) (r : Half) :
    (m.powerStep t r).control &&& 0xEF = m.control &&& 0xEF ∧ (m.powerStep t r).mode = m.mode := by
  by_cases h : m.mode = .rate
  · obtain ⟨hbits, hmode, -⟩ := pidDirection_other_bits (m.pidTerms t r).pidSum m.control
    simpa only [MotorRegs.mode, MotorRegs.powerStep_rate t r h, MotorRegs.pidStep_control] using
      And.intro hbits hmode
  · simp [MotorRegs.mode, (MotorRegs.powerStep_of_ne_rate t r h).1]

/-! ### The tick (R292) -/

/-- Outside RATE mode a tick leaves the control byte and the loop memory alone. -/
theorem MotorRegs.tick_of_ne_rate {m : MotorRegs} (t : Tunables) (p : Params) (h : m.mode ≠ .rate) :
    (m.tick t p).control = m.control ∧ (m.tick t p).pidP = m.pidP ∧
      (m.tick t p).pidI = m.pidI ∧ (m.tick t p).pidD = m.pidD := by
  simpa [MotorRegs.tick_eq] using
    MotorRegs.powerStep_of_ne_rate t m.currentRate ((m.measured_mode p).trans_ne h)

/-- In RATE mode the rescaled request is not recomputed (R292). -/
theorem MotorRegs.tick_scaledPower_of_rate {m : MotorRegs} (t : Tunables) (p : Params) (h : m.mode = .rate) :
    (m.tick t p).scaledPower = m.scaledPower := by
  simp [MotorRegs.tick_eq, MotorRegs.powerStep_rate t m.currentRate ((m.measured_mode p).trans h)]

/-- A tick ends with `APPLY` (R292), so the output is the one `APPLY` gives for the registers it leaves. -/
theorem MotorRegs.tick_output (m : MotorRegs) (t : Tunables) (p : Params) :
    (m.tick t p).outMode = (m.tick t p).apply.outMode ∧ (m.tick t p).outDuty = (m.tick t p).apply.outDuty := by
  simp only [MotorRegs.tick_eq, MotorRegs.apply_apply_outMode, MotorRegs.apply_outDuty,
    MotorRegs.apply_currentPower, and_self]

/-- Settles O40, from the frame of the power path in each mode. -/
theorem tickFrame : Obligations.TickFrame := by
  unfold Obligations.TickFrame
  intro m t p
  exact ⟨m.tick_setPower t p, m.tick_targetRate t p, m.tick_encoderValue t p, m.tick_currentDraw t p,
    MotorRegs.tick_of_ne_rate t p, MotorRegs.tick_scaledPower_of_rate t p, m.tick_output t p⟩

end Sys2Proof.Machine
end

section
/-! Operations as transport events: every row of the classes WR and RD is a run of them (R101 to R103), so a property
of states that each transport event keeps is kept by every such row. -/

namespace Sys2Proof.Machine

/-! ### One transport event, and runs of them -/

/-- What one transport event can do to a state: `START_W` (R171), `RX` (R172 to R175), `END_W` (R180), or an answer to
`REQ`, which is no data on a halted core (R185, R395). An event that a halted core drops does nothing. -/
inductive TransportStep : State → State → Prop
  | startWrite (s : State) : TransportStep s s.startWrite
  | receive {s t : State} {b : Byte} (h : s.receive b = .next t) : TransportStep s t
  | endWrite (s : State) : TransportStep s s.endWrite
  | answer (s : State) (block : Option ReadBlock) : TransportStep s { s with readBlock := block }

/-- What a sequence of transport events can do to a state. -/
abbrev TransportRun : State → State → Prop :=
  Relation.ReflTransGen TransportStep

theorem State.request_eq_next {s t : State} (h : s.request = .next t) :
    ∃ block, t = { s with readBlock := some block } := by
  unfold State.request at h
  split at h
  · exact ⟨_, (Host.Outcome.next.inj h).symm⟩
  · cases h

/-- A handler that always answers next has its effect, or none where the core is halted (R395). -/
theorem whenRunning_total {f : State → State} {s t : State}
    (h : whenRunning (fun u => .next (f u)) s = .next t) : t = f s ∨ t = s := by
  obtain ⟨-, hrun⟩ | ⟨-, rfl⟩ := whenRunning_eq_next.mp h
  · exact .inl (Host.Outcome.next.inj hrun).symm
  · exact .inr rfl

theorem execStartW_transportRun {s t : State} (h : execStartW s = .next t) : TransportRun s t := by
  obtain rfl | rfl := whenRunning_total h
  · exact .single (.startWrite s)
  · exact .refl

theorem execRx_transportRun {s t : State} {b : Byte} (h : execRx b s = .next t) : TransportRun s t := by
  obtain ⟨-, hb⟩ | ⟨-, rfl⟩ := whenRunning_eq_next.mp h
  · exact .single (.receive hb)
  · exact .refl

theorem execEndW_transportRun {s t : State} (h : execEndW s = .next t) : TransportRun s t := by
  obtain rfl | rfl := whenRunning_total h
  · exact .single (.endWrite s)
  · exact .refl

theorem execReq_transportRun {s t : State} (h : execReq s = .next t) : TransportRun s t := by
  unfold execReq at h
  split at h
  · obtain ⟨block, rfl⟩ := State.request_eq_next h
    exact .single (.answer s _)
  · exact .single (Host.Outcome.next.inj h ▸ .answer s none)

/-! ### Transactions and rows as runs (R101, R103) -/

theorem receiveAll_transportRun {bytes : List Byte} {s t : State} (h : receiveAll bytes s = .next t) :
    TransportRun s t := by
  induction bytes generalizing s with
  | nil => exact Host.Outcome.next.inj h ▸ .refl
  | cons b bytes ih =>
    obtain ⟨u, hb, hrest⟩ := andThen_eq_next.mp h
    exact (execRx_transportRun hb).trans (ih hrest)

theorem writeTransaction_transportRun {bytes : List Byte} {s t : State}
    (h : writeTransaction bytes s = .next t) : TransportRun s t := by
  obtain ⟨u, hstart, h⟩ := andThen_eq_next.mp h
  obtain ⟨v, hbytes, hend⟩ := andThen_eq_next.mp h
  exact ((execStartW_transportRun hstart).trans (receiveAll_transportRun hbytes)).trans
    (execEndW_transportRun hend)

theorem readTransaction_transportRun {addr : Byte} {s t : State}
    (h : readTransaction addr s = .next t) : TransportRun s t := by
  obtain ⟨u, hselect, hreq⟩ := andThen_eq_next.mp h
  exact (writeTransaction_transportRun hselect).trans (execReq_transportRun hreq)

/-- A row of the class WR is the transaction that begins with the row's `match` byte (R101, R102). -/
theorem exec_of_write {i : Instr} (h : i.opClass = .write) :
    ∃ bytes, ∀ s, exec i s = writeTransaction (i.matchByte :: bytes) s := by
  cases i <;> cases h <;> exact ⟨_, fun _ => rfl⟩

/-- A row of the class RD is the read of the address that is the row's `match` byte (R103). -/
theorem exec_of_read {i : Instr} (h : i.opClass = .read) (s : State) :
    exec i s = readTransaction i.matchByte s := by
  cases i <;> cases h <;> rfl

/-! ### What an operation can do -/

/-- What an operation can do to a state it does not fault in: a run of transport events, a reset, a tick of both
motors, an edge, or a conversion (R365). -/
inductive ExecEffect : Instr → State → State → Prop
  | transport {i : Instr} {s t : State} (h : TransportRun s t) : ExecEffect i s t
  | por (s : State) : ExecEffect .por s s.resetCore
  | wdt (s : State) : ExecEffect .wdt s s.resetCore
  | tick (s : State) : ExecEffect .tick s ((s.tickMotor .m1).tickMotor .m2)
  | enc (m : MotorId) (b : Bool) (s : State) : ExecEffect (.enc m b) s (s.mapMotor m (fun r => r.countEdge b))
  | adc (v : Nat) (s : State) : ExecEffect (.adc v) s (s.sample v)

/-- A handler that a halted core drops: its own effect, or none (R395). -/
theorem whenRunning_effect {i : Instr} (f : State → State) {s t : State} (hf : ExecEffect i s (f s))
    (h : whenRunning (fun u => .next (f u)) s = .next t) : ExecEffect i s t := by
  obtain rfl | rfl := whenRunning_total h
  · exact hf
  · exact .transport .refl

/-- Every operation has one of these effects, by the class of its row. -/
theorem exec_effect {i : Instr} {s t : State} (h : exec i s = .next t) : ExecEffect i s t := by
  cases hc : i.opClass with
  | write =>
    obtain ⟨bytes, hrow⟩ := exec_of_write hc
    exact .transport (writeTransaction_transportRun ((hrow s).symm.trans h))
  | read => exact .transport (readTransaction_transportRun ((exec_of_read hc s).symm.trans h))
  | event =>
    cases i with
    | por => exact Host.Outcome.next.inj h ▸ .por s
    | wdt => exact Host.Outcome.next.inj h ▸ .wdt s
    | tick => exact whenRunning_effect (fun u => (u.tickMotor .m1).tickMotor .m2) (.tick s) h
    | enc m b => exact whenRunning_effect (fun u => u.mapMotor m (fun r => r.countEdge b)) (.enc m b s) h
    | adc v => exact whenRunning_effect (fun u => u.sample v) (.adc v s) h
    | startW => exact .transport (execStartW_transportRun h)
    | rx b => exact .transport (execRx_transportRun h)
    | endW => exact .transport (execEndW_transportRun h)
    | req => exact .transport (execReq_transportRun h)
    | _ => cases hc

/-! ### Rules about the parts of a transport event -/

/-- A conditional operation keeps what the operation keeps. -/
theorem ite_keeps {P : State → Prop} {c : Bool} {f : State → State} {s : State}
    (hf : c = true → P s → P (f s)) (hs : P s) : P (if c then f s else s) := by
  split
  · exact hf ‹_› hs
  · exact hs

/-- Any property that the recomputations, the save (only with bit 12 of `updated` set), the load and the halt keep is
kept by the end of a transaction (R180). -/
theorem State.endWrite_induction {P : State → Prop} (s : State) (hclose : P s.closeTransaction)
    (hupdate : ∀ u i, P u → P (u.update i))
    (hsave : s.bus.updated.getLsbD 12 = true → ∀ u sel, P u → P (u.save sel))
    (hload : ∀ u, P u → P u.load) (hhalt : ∀ u, P u → P { u with run := .halted }) : P s.endWrite := by
  have hupdateIf : ∀ u i, P u → P (u.updateIf s.bus.updated i) := fun u i =>
    ite_keeps (f := fun u => u.update i) fun _ => hupdate u i
  exact ite_keeps (f := fun u => { u with run := .halted }) (fun _ => hhalt _) <|
    ite_keeps (f := State.load) (fun _ => hload _) <|
    ite_keeps (f := fun u => u.save u.bus.saveSelector) (fun hc => hsave hc _ _) <|
    hupdateIf _ .m2 <| hupdateIf _ .m1 hclose

/-- The address register advanced to its successor, which the byte after a complete field asks for (R173). -/
def State.advanced (s : State) : State :=
  ({ s with bus := { s.bus with advPending := false } }).select (s.bus.activeAddr + 1)

/-- Everything `RX` can do in the data phase, with the conditions under which it does it (R173, R174). -/
theorem State.rxData_next {s t : State} {b : Byte} (h : s.rxData b = .next t) :
    (s.bus.advPending = false ∧ s.stageByte b = .next t) ∨
    (s.bus.advPending = true ∧ dataWritable (s.bus.activeAddr + 1) = true ∧ s.advanced.stageByte b = .next t) ∨
    (s.bus.advPending = true ∧
      t = ({ s with bus := { s.bus with advPending := false } }).setPhase .discard) := by
  unfold State.rxData at h
  split at h
  · rename_i hadv
    dsimp only at h
    split at h
    · rename_i hw
      exact .inr (.inl ⟨hadv, (Bool.and_eq_true _ _ ▸ hw).2, h⟩)
    · exact .inr (.inr ⟨hadv, (Host.Outcome.next.inj h).symm⟩)
  · rename_i hadv
    exact .inl ⟨by simpa using hadv, h⟩

/-- `RX` by phase, the data phase left to `State.rxData_next` (R172 to R175). -/
theorem State.receive_cases {s t : State} {b : Byte} (h : s.receive b = .next t) :
    (s.bus.rxPhase = .addr ∧ t = s.rxAddress b) ∨ (s.bus.rxPhase = .data ∧ s.rxData b = .next t) ∨
      (s.bus.rxPhase ≠ .addr ∧ t = s) := by
  cases hp : s.bus.rxPhase with
  | addr => exact .inl ⟨rfl, by simpa [State.receive, hp] using h.symm⟩
  | data => exact .inr (.inl ⟨rfl, by simpa [State.receive, hp] using h⟩)
  | discard =>
    rw [s.receive_dropped b (.inl hp)] at h
    exact .inr (.inr ⟨by simp, (Host.Outcome.next.inj h).symm⟩)
  | idle =>
    rw [s.receive_dropped b (.inr hp)] at h
    exact .inr (.inr ⟨by simp, (Host.Outcome.next.inj h).symm⟩)

/-! ### The `updated` bitmap and the selection of a register (R46, R172) -/

theorem markUpdated_getLsbD_of_ne (u : BitVec 16) {j k : Nat} (h : j ≠ k) :
    (markUpdated u j).getLsbD k = u.getLsbD k := by
  have hk : k < j ∨ 0 < k - j := by omega
  simp only [markUpdated, BitVec.getLsbD_or, BitVec.getLsbD_shiftLeft, BitVec.getLsbD_one]
  rcases hk with hk | hk
  · simp [hk]
  · simp [hk.ne']

/-- Marking a register leaves the other registers' bits alone. -/
theorem State.markUpdated_getLsbD_of_ne (s : State) {r : Reg} {k : Nat} (h : r.updatedBit ≠ some k) :
    (s.markUpdated r).bus.updated.getLsbD k = s.bus.updated.getLsbD k := by
  unfold State.markUpdated
  split
  · rename_i j hj
    exact Machine.markUpdated_getLsbD_of_ne _ fun hjk => h (hjk ▸ hj)
  · rfl

/-- Bit 15 belongs to no register (R46). -/
theorem Reg.updatedBit_ne_fifteen (r : Reg) : r.updatedBit ≠ some 15 := by
  cases r with
  | motor m r => cases m <;> cases r <;> decide
  | _ => decide

/-- Bit 12 belongs to SETTINGS_SAVE alone (R110). -/
theorem Reg.updatedBit_ne_twelve {r : Reg} (h : r ≠ .settingsSave) : r.updatedBit ≠ some 12 := by
  cases r with
  | motor m r => cases m <;> cases r <;> decide
  | settingsSave => exact absurd rfl h
  | _ => decide

/-- The phase after a selection: the value bytes of a writable register with a payload, else none (R172). -/
theorem Reg.phaseAfterSelect_cases (r : Reg) :
    (r.phaseAfterSelect = .data ∧ r.writable = true ∧ 0 < r.width) ∨ r.phaseAfterSelect = .discard := by
  cases r with
  | motor m r => cases m <;> cases r <;> decide
  | _ => decide

theorem State.markUpdated_eq (s : State) (r : Reg) :
    s.markUpdated r = { s with bus := { s.bus with updated := (s.markUpdated r).bus.updated } } := by
  unfold State.markUpdated
  split <;> rfl

/-- A selection writes the active address, the phase and, for a command without payload, its `updated` bit. -/
theorem State.selectReg_eq (s : State) (a : Byte) (r : Reg) :
    s.selectReg a r =
      { s with bus :=
        { s.bus with
          activeAddr := a
          rxPhase := r.phaseAfterSelect
          updated := (s.selectReg a r).bus.updated } } := by
  cases r <;> rfl

/-- A selection sets bit 13 or bit 14 of `updated` at most (R172). -/
theorem State.selectReg_getLsbD_of_ne (s : State) (a : Byte) (r : Reg) {k : Nat} (hload : k ≠ 13)
    (hreset : k ≠ 14) :
    (s.selectReg a r).bus.updated.getLsbD k = s.bus.updated.getLsbD k := by
  cases r with
  | settingsLoad => exact Machine.markUpdated_getLsbD_of_ne _ hload.symm
  | softReset => exact Machine.markUpdated_getLsbD_of_ne _ hreset.symm
  | _ => rfl

theorem State.rxAddress_of_mapped (s : State) {b : Byte} {r : Reg} (h : regAt b = some r) :
    s.rxAddress b = s.selectReg b r := by
  rw [State.rxAddress, h]

theorem State.rxAddress_of_unmapped (s : State) {b : Byte} (h : regAt b = none) :
    s.rxAddress b = s.setPhase .discard := by
  rw [State.rxAddress, h]

/-- An address byte changes protocol registers only. -/
theorem State.rxAddress_eq (s : State) (b : Byte) : s.rxAddress b = { s with bus := (s.rxAddress b).bus } := by
  cases h : regAt b with
  | none => rw [s.rxAddress_of_unmapped h]; rfl
  | some r => rw [s.rxAddress_of_mapped h, s.selectReg_eq b r]

/-- A decode routine leaves the active address, the phase and the bitmap alone (R77). -/
theorem State.writeReg_bus {s t : State} {v : Nat} {r : Reg} (h : s.writeReg v r = some t) :
    t.bus.activeAddr = s.bus.activeAddr ∧ t.bus.rxPhase = s.bus.rxPhase ∧ t.bus.updated = s.bus.updated := by
  obtain ⟨i, m, rfl, -⟩ | ⟨tun, rfl, -⟩ | rfl := State.writeReg_cases h
  · simp only [State.setMotor_bus, and_self]
  · exact ⟨rfl, rfl, rfl⟩
  · exact ⟨rfl, rfl, rfl⟩

end Sys2Proof.Machine
end

section
/-! The invariant of R53 and R338: it holds after a reset, and every operation keeps it. -/

namespace Sys2Proof.Machine

/-! ### One motor (R53 b, c, g; R338) -/

/-- Bits 7:6 of a byte do not see a change of bit 4. -/
theorem reserved_of_other_bits {c d : Byte} (h : c &&& 0xEF = d &&& 0xEF) :
    c.extractLsb' 6 2 = d.extractLsb' 6 2 := by
  have mask : ∀ c : Byte, (c &&& 0xEF).extractLsb' 6 2 = c.extractLsb' 6 2 := by decide
  rw [← mask c, h, mask d]

theorem setNewCurrent_reserved (c : Byte) : (setNewCurrent c).extractLsb' 6 2 = c.extractLsb' 6 2 := by
  revert c; decide

theorem MotorRegs.cleared_inv (p : Params) : MotorRegs.cleared.Inv p :=
  ⟨by decide, by decide, by decide, Nat.two_pow_pos _⟩

theorem MotorRegs.tick_inv {m : MotorRegs} {t : Tunables} {p : Params} (h : m.Inv p) : (m.tick t p).Inv p := by
  obtain ⟨hreserved, hterms, -, hdraw⟩ := h
  obtain ⟨hbits, hmode⟩ := (m.measured p).powerStep_control_other_bits t m.currentRate
  rw [MotorRegs.measured_control] at hbits
  rw [MotorRegs.measured_mode] at hmode
  rw [MotorRegs.tick_eq]
  refine MotorRegs.apply_inv ((reserved_of_other_bits hbits).trans hreserved) (fun hne => ?_)
    (by simpa [MotorRegs.DrawOk] using hdraw)
  have hm : m.mode ≠ .rate := hmode ▸ hne
  obtain ⟨-, hP, hI, hD⟩ := MotorRegs.powerStep_of_ne_rate t m.currentRate ((m.measured_mode p).trans_ne hm)
  simpa [hP, hI, hD] using hterms hm

theorem MotorRegs.countEdge_inv {m : MotorRegs} {p : Params} (b : Bool) (h : m.Inv p) : (m.countEdge b).Inv p := by
  unfold MotorRegs.countEdge
  split
  · exact h
  · exact h

theorem MotorRegs.recordDraw_inv {m : MotorRegs} {p : Params} (v : Nat) (h : m.Inv p) :
    (m.recordDraw p.adcBits v).Inv p := by
  obtain ⟨hreserved, hterms, hout, -⟩ := h
  have hmode : (m.recordDraw p.adcBits v).mode = m.mode := modeOf_setNewCurrent m.control
  refine ⟨(setNewCurrent_reserved m.control).trans hreserved, fun hne => hterms (hmode ▸ hne), hout, ?_⟩
  calc (BitVec.ofNat 16 (v % 2 ^ p.adcBits)).toNat
      ≤ v % 2 ^ p.adcBits := by rw [BitVec.toNat_ofNat]; exact Nat.mod_le _ _
    _ < 2 ^ p.adcBits := Nat.mod_lt _ (Nat.two_pow_pos _)

/-! ### The protocol registers (R53 d, e, f) -/

/-- R53 (e) in the data phase. -/
theorem BusRegs.stagingOk_data {b : BusRegs} {r : Reg} (hp : b.rxPhase = .data) (hr : regAt b.activeAddr = some r) :
    b.stagingOk = true ↔
      r.writable = true ∧ b.stage.length < r.width ∧ (b.stage = [] ∨ b.advPending = false) := by
  simp [BusRegs.stagingOk, hp, hr, and_assoc]

/-- R53 (e) outside the data phase. -/
theorem BusRegs.stagingOk_of_ne_data {b : BusRegs} (hp : b.rxPhase ≠ .data) :
    b.stagingOk = true ↔ b.stage = [] ∧ b.advPending = false := by
  cases h : b.rxPhase with
  | data => exact absurd h hp
  | _ => simp [BusRegs.stagingOk, h]

/-- R53 (d) gives the active address a register. -/
theorem BusRegs.Inv.active {b : BusRegs} (h : b.Inv) : ∃ r, regAt b.activeAddr = some r :=
  Option.isSome_iff_exists.mp h.1

/-- The phase between transactions: nothing staged, no advance pending, the active address and bit 15 kept. -/
theorem BusRegs.inv_of_empty {b : BusRegs} (hmapped : mapped b.activeAddr = true) (hp : b.rxPhase ≠ .data)
    (hstage : b.stage = []) (hadv : b.advPending = false) (hbit : b.updated.getLsbD 15 = false) : b.Inv :=
  ⟨hmapped, (BusRegs.stagingOk_of_ne_data hp).mpr ⟨hstage, hadv⟩, hbit⟩

/-- The data phase of a writable register with room for a further byte. -/
theorem BusRegs.inv_of_data {b : BusRegs} {r : Reg} (hp : b.rxPhase = .data) (hr : regAt b.activeAddr = some r)
    (hw : r.writable = true) (hroom : b.stage.length < r.width) (hempty : b.stage = [] ∨ b.advPending = false)
    (hbit : b.updated.getLsbD 15 = false) : b.Inv :=
  ⟨by simp [mapped, hr], (BusRegs.stagingOk_data hp hr).mpr ⟨hw, hroom, hempty⟩, hbit⟩

theorem BusRegs.cleared_inv : BusRegs.cleared.Inv := by decide

/-! ### The whole state -/

theorem State.Inv.motor {s : State} (h : s.Inv) (i : MotorId) : (s.motor i).Inv s.params := by
  obtain ⟨h1, h2, -, -⟩ := h
  cases i with
  | m1 => exact h1
  | m2 => exact h2

theorem State.Inv.busAddress {s : State} (h : s.Inv) : s.tun.busAddress.getLsbD 7 = false := by
  obtain ⟨-, -, haddr, -⟩ := h
  exact haddr

theorem State.Inv.bus {s : State} (h : s.Inv) : s.bus.Inv := by
  obtain ⟨-, -, -, hbus⟩ := h
  exact hbus

theorem State.Inv.withBus {s : State} {b : BusRegs} (h : s.Inv) (hb : b.Inv) : ({ s with bus := b } : State).Inv :=
  ⟨h.motor .m1, h.motor .m2, h.busAddress, hb⟩

theorem State.Inv.withTun {s : State} {tun : Tunables} (h : s.Inv) (htun : tun.busAddress.getLsbD 7 = false) :
    ({ s with tun := tun } : State).Inv :=
  ⟨h.motor .m1, h.motor .m2, htun, h.bus⟩

theorem State.Inv.setMotor {s : State} {i : MotorId} {m : MotorRegs} (h : s.Inv) (hm : m.Inv s.params) :
    (s.setMotor i m).Inv := by
  obtain ⟨h1, h2, htun, hbus⟩ := h
  cases i with
  | m1 => exact ⟨hm, h2, htun, hbus⟩
  | m2 => exact ⟨h1, hm, htun, hbus⟩

theorem State.Inv.mapMotor {s : State} {i : MotorId} {f : MotorRegs → MotorRegs} (h : s.Inv)
    (hf : ∀ m : MotorRegs, m.Inv s.params → (f m).Inv s.params) : (s.mapMotor i f).Inv :=
  h.setMotor (hf _ (h.motor i))

theorem State.Inv.update {s : State} (i : MotorId) (h : s.Inv) : (s.update i).Inv :=
  h.mapMotor fun _ => MotorRegs.update_inv _

theorem State.Inv.loadControl {s : State} (i : MotorId) (h : s.Inv) : (s.loadControl i).Inv :=
  h.mapMotor fun _ => MotorRegs.commitControl_inv _

theorem State.Inv.load {s : State} (h : s.Inv) : s.load.Inv :=
  ((((h.loadControl .m1).loadControl .m2).withTun (loadedTunables_busAddress _ _)).update .m1).update .m2

theorem State.Inv.save {s : State} (sel : Byte) (h : s.Inv) : (s.save sel).Inv := by
  simpa only [State.Inv, State.save_m1, State.save_m2, State.save_tun, State.save_bus, State.save_params] using h

theorem State.Inv.tickMotor {s : State} (i : MotorId) (h : s.Inv) : (s.tickMotor i).Inv :=
  h.mapMotor fun _ => MotorRegs.tick_inv

theorem State.Inv.sample {s : State} (v : Nat) (h : s.Inv) : (s.sample v).Inv :=
  State.Inv.mapMotor (i := s.adcChan) h fun _ => MotorRegs.recordDraw_inv v

/-! ### Reset (R411, R412) -/

/-- The registers of R55 meet the invariant whatever the parameters are. -/
theorem State.clearRegs_inv (s : State) : s.clearRegs.Inv :=
  ⟨MotorRegs.cleared_inv _, MotorRegs.cleared_inv _, by simp [State.clearRegs], BusRegs.cleared_inv⟩

/-- A reset establishes the invariant from any state: the cleared registers meet it and the load keeps it. -/
theorem State.resetCore_inv (s : State) : s.resetCore.Inv :=
  s.clearRegs_inv.load

/-- Settles O57. -/
theorem resetMeetsTheInvariant : Obligations.ResetMeetsTheInvariant := by
  unfold Obligations.ResetMeetsTheInvariant
  exact ⟨by decide, fun p => State.resetCore_inv _⟩

/-! ### Transport events -/

theorem State.Inv.startWrite {s : State} (h : s.Inv) : s.startWrite.Inv := by
  obtain ⟨hmapped, -, hbit⟩ := h.bus
  exact h.withBus (BusRegs.inv_of_empty hmapped (by simp) rfl rfl hbit)

theorem State.Inv.endWrite {s : State} (h : s.Inv) : s.endWrite.Inv := by
  obtain ⟨hmapped, -, -⟩ := h.bus
  exact s.endWrite_induction (P := State.Inv)
    (h.withBus (BusRegs.inv_of_empty hmapped (by simp) rfl rfl (by simp)))
    (fun _ i hu => hu.update i) (fun _ _ sel hu => hu.save sel) (fun _ hu => hu.load) (fun _ hu => hu)

/-- An address byte leaves nothing staged, and leads to the data phase of a writable register with a payload only
(R172). -/
theorem State.Inv.rxAddress {s : State} (b : Byte) (hp : s.bus.rxPhase = .addr) (h : s.Inv) :
    (s.rxAddress b).Inv := by
  obtain ⟨hmapped, hstaging, hbit⟩ := h.bus
  obtain ⟨hstage, hadv⟩ := (BusRegs.stagingOk_of_ne_data (by simp [hp])).mp hstaging
  cases hr : regAt b with
  | none =>
    rw [s.rxAddress_of_unmapped hr]
    exact h.withBus (BusRegs.inv_of_empty hmapped (by simp) hstage hadv hbit)
  | some r =>
    have hbit' := (s.selectReg_getLsbD_of_ne b r (k := 15) (by decide) (by decide)).trans hbit
    have hb : mapped b = true := by simp [mapped, hr]
    rw [s.rxAddress_of_mapped hr, s.selectReg_eq b r]
    obtain ⟨hdata, hw, hwidth⟩ | hdiscard := r.phaseAfterSelect_cases
    · exact h.withBus (BusRegs.inv_of_data hdata hr hw (hstage ▸ hwidth) (.inl hstage) hbit')
    · exact h.withBus (BusRegs.inv_of_empty hb (by simp [hdiscard]) hstage hadv hbit')

theorem State.Inv.writeReg {s t : State} {v : Nat} {r : Reg} (h : s.Inv) (hw : s.writeReg v r = some t) :
    t.Inv := by
  obtain ⟨i, m, rfl, hm⟩ | ⟨tun, rfl, htun⟩ | rfl := State.writeReg_cases hw
  · refine h.setMotor ?_
    obtain rfl | rfl | rfl := hm
    · exact MotorRegs.commitControl_inv _ (h.motor i)
    · exact h.motor i
    · exact h.motor i
  · refine h.withTun ?_
    obtain htun | htun := htun
    · exact htun ▸ h.busAddress
    · simp [htun, asBusAddress]
  · exact h.withBus h.bus

/-- A value byte on a core that receives a field with no advance pending: staged while bytes are missing, else the
field is committed and the buffer emptied (R174). -/
theorem State.Inv.stageByte {s t : State} {b : Byte} (h : s.Inv) (hp : s.bus.rxPhase = .data)
    (hadv : s.bus.advPending = false) (hb : s.stageByte b = .next t) : t.Inv := by
  obtain ⟨-, hstaging, hbit⟩ := h.bus
  obtain ⟨r, hr, hcase⟩ := State.stageByte_next hb
  obtain ⟨hw, hroom, -⟩ := (BusRegs.stagingOk_data hp hr).mp hstaging
  obtain ⟨hlen, rfl⟩ | ⟨-, u, hu, rfl⟩ := hcase
  · have hroom' : (s.bus.stage ++ [b]).length < r.width := by
      simp only [List.length_append, List.length_singleton]
      omega
    exact h.withBus (BusRegs.inv_of_data hp hr hw hroom' (.inr hadv) hbit)
  · obtain ⟨haddr, hphase, hupdated⟩ := State.writeReg_bus hu
    have hbit' : (u.markUpdated r).bus.updated.getLsbD 15 = false := by
      rw [u.markUpdated_getLsbD_of_ne r.updatedBit_ne_fifteen, hupdated]
      exact hbit
    rw [u.markUpdated_eq r]
    exact (h.writeReg hu).withBus
      (BusRegs.inv_of_data (hphase.trans hp) (haddr ▸ hr) hw (Nat.zero_lt_of_lt hroom) (.inl rfl) hbit')

/-- A register that takes value bytes after another is writable and has a payload (R111, R173). -/
theorem dataWritable_cases {a : Byte} (h : dataWritable a = true) :
    ∃ r, regAt a = some r ∧ r.writable = true ∧ 0 < r.width := by
  unfold dataWritable at h
  split at h
  · rename_i r hr
    rw [Bool.and_eq_true] at h
    obtain ⟨hw, hcommand⟩ := h
    refine ⟨r, hr, hw, ?_⟩
    cases r with
    | motor m r => cases m <;> cases r <;> decide
    | settingsLoad => cases hcommand
    | softReset => cases hcommand
    | _ => decide
  · cases h

/-- The deferred advance (R173). -/
theorem State.Inv.advanced {s : State} (h : s.Inv) (hp : s.bus.rxPhase = .data) (hstage : s.bus.stage = [])
    (hn : dataWritable (s.bus.activeAddr + 1) = true) : s.advanced.Inv := by
  obtain ⟨r, hr, hw, hwidth⟩ := dataWritable_cases hn
  obtain ⟨-, -, hbit⟩ := h.bus
  exact h.withBus (BusRegs.inv_of_data hp hr hw (hstage ▸ hwidth) (.inl hstage) hbit)

theorem State.Inv.rxData {s t : State} {b : Byte} (h : s.Inv) (hp : s.bus.rxPhase = .data)
    (hb : s.rxData b = .next t) : t.Inv := by
  obtain ⟨hmapped, hstaging, hbit⟩ := h.bus
  obtain ⟨r, hr⟩ := h.bus.active
  obtain ⟨-, -, hempty⟩ := (BusRegs.stagingOk_data hp hr).mp hstaging
  have hstage : s.bus.advPending = true → s.bus.stage = [] := fun hadv => hempty.resolve_right (by simp [hadv])
  obtain ⟨hadv, hb⟩ | ⟨hadv, hn, hb⟩ | ⟨hadv, rfl⟩ := State.rxData_next hb
  · exact h.stageByte hp hadv hb
  · exact (h.advanced hp (hstage hadv) hn).stageByte hp rfl hb
  · exact h.withBus (BusRegs.inv_of_empty hmapped (by simp) (hstage hadv) rfl hbit)

theorem State.Inv.receive {s t : State} {b : Byte} (h : s.Inv) (hb : s.receive b = .next t) : t.Inv := by
  obtain ⟨hp, rfl⟩ | ⟨hp, hdata⟩ | ⟨-, rfl⟩ := State.receive_cases hb
  · exact h.rxAddress b hp
  · exact h.rxData hp hdata
  · exact h

/-! ### Operations and steps -/

theorem State.Inv.transportRun {s t : State} (h : s.Inv) (hrun : TransportRun s t) : t.Inv := by
  induction hrun with
  | refl => exact h
  | tail _ hstep ih =>
    cases hstep with
    | startWrite => exact ih.startWrite
    | receive hb => exact ih.receive hb
    | endWrite => exact ih.endWrite
    | answer => exact ih

/-- Every operation keeps the invariant, by what it can do. -/
theorem State.Inv.exec {i : Instr} {s t : State} (h : s.Inv) (hexec : exec i s = .next t) : t.Inv := by
  cases exec_effect hexec with
  | transport hrun => exact h.transportRun hrun
  | por => exact s.resetCore_inv
  | wdt => exact s.resetCore_inv
  | tick => exact (h.tickMotor .m1).tickMotor .m2
  | enc m b => exact h.mapMotor fun _ => MotorRegs.countEdge_inv b
  | adc v => exact h.sample v

/-- Settles O58: the idle step keeps the state, a refused one has no next state, and any other runs one operation. -/
theorem everyStepKeepsTheInvariant : Obligations.EveryStepKeepsTheInvariant := by
  unfold Obligations.EveryStepKeepsTheInvariant
  intro s t h hstep
  by_cases hnil : s.input = []
  · rw [step_of_input_nil hnil] at hstep
    exact Host.Outcome.next.inj hstep ▸ h
  · cases hdec : decode s.input with
    | error e => simp [step_of_decode_error hnil hdec] at hstep
    | ok head =>
      obtain ⟨i, rest⟩ := head
      rw [step_of_decode_ok hdec] at hstep
      exact State.Inv.exec (s := { s with input := rest }) h hstep

end Sys2Proof.Machine
end

section
/-! The writers of R54: which operations can change the counts, the rates, the readings and the store. -/

namespace Sys2Proof.Machine

/-! ### What no bus transaction changes -/

/-- The measured registers of a motor are the same in both (R27 to R30). -/
structure MotorRegs.SameReadings (m n : MotorRegs) : Prop where
  encoderValue : n.encoderValue = m.encoderValue
  currentRate : n.currentRate = m.currentRate
  oldEnc : n.oldEnc = m.oldEnc
  currentDraw : n.currentDraw = m.currentDraw

/-- Both motors' measured registers, the channel of the conversion, the parameters and the input trace are the same. -/
structure State.SameReadings (s t : State) : Prop where
  motor : ∀ i, (s.motor i).SameReadings (t.motor i)
  adcChan : t.adcChan = s.adcChan
  params : t.params = s.params
  input : t.input = s.input

@[refl] theorem MotorRegs.SameReadings.refl (m : MotorRegs) : m.SameReadings m :=
  ⟨rfl, rfl, rfl, rfl⟩

theorem MotorRegs.SameReadings.trans {l m n : MotorRegs} (hlm : l.SameReadings m) (hmn : m.SameReadings n) :
    l.SameReadings n :=
  ⟨hmn.1.trans hlm.1, hmn.2.trans hlm.2, hmn.3.trans hlm.3, hmn.4.trans hlm.4⟩

theorem State.SameReadings.trans {s t u : State} (hst : s.SameReadings t) (htu : t.SameReadings u) :
    s.SameReadings u :=
  ⟨fun i => (hst.motor i).trans (htu.motor i), htu.adcChan.trans hst.adcChan, htu.params.trans hst.params,
    htu.input.trans hst.input⟩

/-- A change outside the motors, the channel, the parameters and the trace. -/
theorem State.SameReadings.of_eq {s t : State} (h1 : t.m1 = s.m1) (h2 : t.m2 = s.m2) (hchan : t.adcChan = s.adcChan)
    (hparams : t.params = s.params) (hinput : t.input = s.input) : s.SameReadings t := by
  refine ⟨fun i => ?_, hchan, hparams, hinput⟩
  cases i with
  | m1 => rw [State.motor_m1, State.motor_m1, h1]
  | m2 => rw [State.motor_m2, State.motor_m2, h2]

theorem State.SameReadings.refl (s : State) : s.SameReadings s :=
  .of_eq rfl rfl rfl rfl rfl

theorem State.sameReadings_setMotor {s : State} {i : MotorId} {m : MotorRegs} (h : (s.motor i).SameReadings m) :
    s.SameReadings (s.setMotor i m) := by
  refine ⟨fun j => ?_, s.setMotor_adcChan i m, s.setMotor_params i m, s.setMotor_input i m⟩
  by_cases hj : j = i
  · rw [hj, State.motor_setMotor_same]
    exact h
  · rw [s.motor_setMotor_other m hj]

theorem MotorRegs.sameReadings_commitControl (m : MotorRegs) (v : Byte) : m.SameReadings (m.commitControl v) :=
  ⟨m.commitControl_encoderValue v, m.commitControl_currentRate v, m.commitControl_oldEnc v,
    m.commitControl_currentDraw v⟩

theorem MotorRegs.sameReadings_update (m : MotorRegs) (f : Byte) : m.SameReadings (m.update f) :=
  ⟨m.update_encoderValue f, m.update_currentRate f, m.update_oldEnc f, m.update_currentDraw f⟩

theorem State.sameReadings_update (s : State) (i : MotorId) : s.SameReadings (s.update i) :=
  State.sameReadings_setMotor ((s.motor i).sameReadings_update _)

theorem State.sameReadings_load (s : State) : s.SameReadings s.load :=
  ⟨fun i => s.load_motor i ▸
      ((s.motor i).sameReadings_commitControl _).trans (MotorRegs.sameReadings_update _ _),
    s.load_adcChan, s.load_params, s.load_input⟩

theorem State.sameReadings_save (s : State) (sel : Byte) : s.SameReadings (s.save sel) :=
  .of_eq (s.save_m1 sel) (s.save_m2 sel) (s.save_adcChan sel) (s.save_params sel) (s.save_input sel)

theorem State.sameReadings_endWrite (s : State) : s.SameReadings s.endWrite :=
  s.endWrite_induction (P := s.SameReadings) (.of_eq rfl rfl rfl rfl rfl)
    (fun u i hu => hu.trans (u.sameReadings_update i)) (fun _ u sel hu => hu.trans (u.sameReadings_save sel))
    (fun u hu => hu.trans u.sameReadings_load) (fun _ hu => hu.trans (.of_eq rfl rfl rfl rfl rfl))

theorem State.sameReadings_writeReg {s t : State} {v : Nat} {r : Reg} (h : s.writeReg v r = some t) :
    s.SameReadings t := by
  obtain ⟨i, m, rfl, hm⟩ | ⟨tun, rfl, -⟩ | rfl := State.writeReg_cases h
  · refine State.sameReadings_setMotor ?_
    obtain rfl | rfl | rfl := hm
    · exact MotorRegs.sameReadings_commitControl _ _
    · exact ⟨rfl, rfl, rfl, rfl⟩
    · exact ⟨rfl, rfl, rfl, rfl⟩
  · exact .of_eq rfl rfl rfl rfl rfl
  · exact .of_eq rfl rfl rfl rfl rfl

theorem State.sameReadings_stageByte {s t : State} {b : Byte} (h : s.stageByte b = .next t) : s.SameReadings t := by
  obtain ⟨r, -, ⟨-, rfl⟩ | ⟨-, u, hu, rfl⟩⟩ := State.stageByte_next h
  · exact .of_eq rfl rfl rfl rfl rfl
  · refine (State.sameReadings_writeReg hu).trans ?_
    rw [u.markUpdated_eq r]
    exact .of_eq rfl rfl rfl rfl rfl

theorem State.sameReadings_receive {s t : State} {b : Byte} (h : s.receive b = .next t) : s.SameReadings t := by
  obtain ⟨-, rfl⟩ | ⟨-, hdata⟩ | ⟨-, rfl⟩ := State.receive_cases h
  · rw [s.rxAddress_eq b]
    exact .of_eq rfl rfl rfl rfl rfl
  · obtain ⟨-, hb⟩ | ⟨-, -, hb⟩ | ⟨-, rfl⟩ := State.rxData_next hdata
    · exact State.sameReadings_stageByte hb
    · exact State.SameReadings.trans (t := s.advanced) (.of_eq rfl rfl rfl rfl rfl)
        (State.sameReadings_stageByte hb)
    · exact .of_eq rfl rfl rfl rfl rfl
  · exact .refl _

/-- No transport event changes a measured register, a parameter or the trace (R54). -/
theorem TransportRun.sameReadings {s t : State} (hrun : TransportRun s t) : s.SameReadings t := by
  induction hrun with
  | refl => exact .refl s
  | tail _ hstep ih =>
    refine ih.trans ?_
    cases hstep with
    | startWrite => exact .of_eq rfl rfl rfl rfl rfl
    | receive hb => exact State.sameReadings_receive hb
    | endWrite => exact State.sameReadings_endWrite _
    | answer => exact .of_eq rfl rfl rfl rfl rfl

/-! ### The operations that do change readings -/

/-- A change of motor registers that keeps a field keeps it in both motors. -/
theorem State.mapMotor_keeps {α : Type} {s : State} {j : MotorId} {f : MotorRegs → MotorRegs}
    {field : MotorRegs → α} (hf : ∀ m, field (f m) = field m) (i : MotorId) :
    field ((s.mapMotor j f).motor i) = field (s.motor i) := by
  by_cases hi : i = j
  · rw [hi, State.motor_mapMotor_same, hf]
  · rw [s.motor_mapMotor_other f hi]

/-- A field that `TICK_MOTOR` keeps is kept by the whole tick (R290). -/
theorem State.tick_keeps {α : Type} {s : State} {field : MotorRegs → α}
    (hf : ∀ (m : MotorRegs) (t : Tunables) (p : Params), field (m.tick t p) = field m) (i : MotorId) :
    field (((s.tickMotor .m1).tickMotor .m2).motor i) = field (s.motor i) :=
  (State.mapMotor_keeps (fun m => hf m _ _) i).trans (State.mapMotor_keeps (fun m => hf m _ _) i)

/-- A field that the sampler keeps in a motor is kept by a conversion (R355). -/
theorem State.sample_keeps {α : Type} {s : State} {v : Nat} {field : MotorRegs → α}
    (hf : ∀ (m : MotorRegs) (n v : Nat), field (m.recordDraw n v) = field m) (i : MotorId) :
    field ((s.sample v).motor i) = field (s.motor i) := by
  have hmap := State.mapMotor_keeps (s := s) (j := s.adcChan) (field := field)
    (fun m => hf m s.params.adcBits v) i
  cases i <;> exact hmap

/-- R347: the count of a motor changes by an edge of that motor or by a reset only. -/
theorem exec_encoderValue {i : Instr} {s t : State} (h : exec i s = .next t) (hreset : NotReset i) {m : MotorId}
    (henc : ∀ b, i ≠ .enc m b) : (t.motor m).encoderValue = (s.motor m).encoderValue := by
  obtain ⟨hpor, hwdt⟩ := hreset
  cases exec_effect h with
  | transport hrun => exact (TransportRun.sameReadings hrun).motor m |>.encoderValue
  | por => exact absurd rfl hpor
  | wdt => exact absurd rfl hwdt
  | tick => exact State.tick_keeps MotorRegs.tick_encoderValue m
  | enc j b =>
    have hj : m ≠ j := fun hmj => henc b (hmj ▸ rfl)
    rw [s.motor_mapMotor_other _ hj]
  | adc v => exact State.sample_keeps MotorRegs.recordDraw_encoderValue m

/-- R54: the rate and the count of the previous measurement change by a tick or by a reset only. -/
theorem exec_currentRate_oldEnc {i : Instr} {s t : State} (h : exec i s = .next t) (hreset : NotReset i)
    (htick : i ≠ .tick) (m : MotorId) :
    (t.motor m).currentRate = (s.motor m).currentRate ∧ (t.motor m).oldEnc = (s.motor m).oldEnc := by
  obtain ⟨hpor, hwdt⟩ := hreset
  cases exec_effect h with
  | transport hrun =>
    have hsame := (TransportRun.sameReadings hrun).motor m
    exact ⟨hsame.currentRate, hsame.oldEnc⟩
  | por => exact absurd rfl hpor
  | wdt => exact absurd rfl hwdt
  | tick => exact absurd rfl htick
  | enc j b =>
    exact ⟨State.mapMotor_keeps (fun r => r.countEdge_currentRate b) m,
      State.mapMotor_keeps (fun r => r.countEdge_oldEnc b) m⟩
  | adc v =>
    exact ⟨State.sample_keeps MotorRegs.recordDraw_currentRate m, State.sample_keeps MotorRegs.recordDraw_oldEnc m⟩

/-- R54: the channel and the recorded readings change by a conversion or by a reset only. -/
theorem exec_adcChan_currentDraw {i : Instr} {s t : State} (h : exec i s = .next t) (hreset : NotReset i)
    (hadc : ∀ v, i ≠ .adc v) :
    t.adcChan = s.adcChan ∧ ∀ m : MotorId, (t.motor m).currentDraw = (s.motor m).currentDraw := by
  obtain ⟨hpor, hwdt⟩ := hreset
  cases exec_effect h with
  | transport hrun =>
    have hsame := TransportRun.sameReadings hrun
    exact ⟨hsame.adcChan, fun m => (hsame.motor m).currentDraw⟩
  | por => exact absurd rfl hpor
  | wdt => exact absurd rfl hwdt
  | tick => exact ⟨by simp, State.tick_keeps MotorRegs.tick_currentDraw⟩
  | enc j b => exact ⟨s.mapMotor_adcChan j _, State.mapMotor_keeps fun r => r.countEdge_currentDraw b⟩
  | adc v => exact absurd rfl (hadc v)

/-- No operation writes the parameters or the trace, resets included (notes/assumptions/1.md, 2.md, 12.md). -/
theorem exec_params_input {i : Instr} {s t : State} (h : exec i s = .next t) :
    t.params = s.params ∧ t.input = s.input := by
  cases exec_effect h with
  | transport hrun =>
    have hsame := TransportRun.sameReadings hrun
    exact ⟨hsame.params, hsame.input⟩
  | por => exact ⟨s.resetCore_params, s.resetCore_input⟩
  | wdt => exact ⟨s.resetCore_params, s.resetCore_input⟩
  | tick => exact ⟨by simp, by simp⟩
  | enc j b => exact ⟨s.mapMotor_params j _, s.mapMotor_input j _⟩
  | adc v => exact ⟨s.mapMotor_params _ _, s.mapMotor_input _ _⟩

/-! ### The settings store (R264, R415) -/

theorem State.writeReg_nv {s t : State} {v : Nat} {r : Reg} (h : s.writeReg v r = some t) : t.nv = s.nv := by
  obtain ⟨i, m, rfl, -⟩ | ⟨tun, rfl, -⟩ | rfl := State.writeReg_cases h
  · exact s.setMotor_nv i m
  · rfl
  · rfl

theorem State.stageByte_nv {s t : State} {b : Byte} (h : s.stageByte b = .next t) : t.nv = s.nv := by
  obtain ⟨r, -, ⟨-, rfl⟩ | ⟨-, u, hu, rfl⟩⟩ := State.stageByte_next h
  · rfl
  · exact (u.markUpdated_nv r).trans (State.writeReg_nv hu)

/-- A byte received does not write the store. -/
theorem State.receive_nv {s t : State} {b : Byte} (h : s.receive b = .next t) : t.nv = s.nv := by
  obtain ⟨-, rfl⟩ | ⟨-, hdata⟩ | ⟨-, rfl⟩ := State.receive_cases h
  · rw [s.rxAddress_eq b]
  · obtain ⟨-, hb⟩ | ⟨-, -, hb⟩ | ⟨-, rfl⟩ := State.rxData_next hdata
    · exact State.stageByte_nv hb
    · exact State.stageByte_nv (s := s.advanced) hb
    · rfl
  · rfl

/-- The end of a transaction writes the store only where bit 12 of `updated` is set (R180, R264). -/
theorem State.endWrite_nv {s : State} (h : s.bus.updated.getLsbD 12 = false) : s.endWrite.nv = s.nv :=
  s.endWrite_induction (P := fun u => u.nv = s.nv) rfl (fun u i hu => (u.update_nv i).trans hu)
    (fun hsave => absurd (h.symm.trans hsave) Bool.false_ne_true) (fun u hu => u.load_nv.trans hu) (fun _ hu => hu)

theorem execReq_nv {s t : State} (h : execReq s = .next t) : t.nv = s.nv := by
  unfold execReq at h
  split at h
  · obtain ⟨block, rfl⟩ := State.request_eq_next h
    rfl
  · exact Host.Outcome.next.inj h ▸ rfl

/-- A handler keeps the store where its own effect does. -/
theorem whenRunning_nv {f : State → State} {s t : State} (hf : (f s).nv = s.nv)
    (h : whenRunning (fun u => .next (f u)) s = .next t) : t.nv = s.nv := by
  obtain rfl | rfl := whenRunning_total h
  · exact hf
  · rfl

theorem execRx_nv {b : Byte} {s t : State} (h : execRx b s = .next t) : t.nv = s.nv := by
  obtain ⟨-, hb⟩ | ⟨-, rfl⟩ := whenRunning_eq_next.mp h
  · exact State.receive_nv hb
  · rfl

theorem execEndW_nv {s t : State} (hbit : s.bus.updated.getLsbD 12 = false) (h : execEndW s = .next t) :
    t.nv = s.nv :=
  whenRunning_nv (State.endWrite_nv hbit) h

/-- A transaction past its address byte that neither has a save waiting nor receives SETTINGS_SAVE's payload. -/
def State.NoSaveComing (s : State) : Prop :=
  s.bus.updated.getLsbD 12 = false ∧ s.bus.rxPhase ≠ .addr ∧
    (s.bus.rxPhase = .data → s.bus.activeAddr ≠ Reg.settingsSave.addr)

/-- Only SETTINGS_SAVE's own address byte makes its payload come (R172). -/
theorem State.rxAddress_noSaveComing {s : State} {b : Byte} (hbit : s.bus.updated.getLsbD 12 = false)
    (hb : b ≠ Reg.settingsSave.addr) : (s.rxAddress b).NoSaveComing := by
  cases hr : regAt b with
  | none =>
    rw [s.rxAddress_of_unmapped hr]
    exact ⟨hbit, by simp, by simp⟩
  | some r =>
    have hbit' := (s.selectReg_getLsbD_of_ne b r (k := 12) (by decide) (by decide)).trans hbit
    rw [s.rxAddress_of_mapped hr, s.selectReg_eq b r]
    refine ⟨hbit', ?_, fun _ => hb⟩
    obtain ⟨hdata, -, -⟩ | hdiscard := r.phaseAfterSelect_cases
    · simp [hdata]
    · simp [hdiscard]

theorem State.NoSaveComing.stageByte {s t : State} {b : Byte} (hs : s.NoSaveComing) (hp : s.bus.rxPhase = .data)
    (h : s.stageByte b = .next t) : t.NoSaveComing := by
  obtain ⟨hbit, hphase, haddr⟩ := hs
  obtain ⟨r, hr, ⟨-, rfl⟩ | ⟨-, u, hu, rfl⟩⟩ := State.stageByte_next h
  · exact ⟨hbit, hphase, haddr⟩
  · have hsave : r ≠ .settingsSave := fun hsave => haddr hp (hsave ▸ addr_of_regAt hr).symm
    obtain ⟨haddr', hphase', hupdated⟩ := State.writeReg_bus hu
    have hbit' : (u.markUpdated r).bus.updated.getLsbD 12 = false := by
      rw [u.markUpdated_getLsbD_of_ne (Reg.updatedBit_ne_twelve hsave), hupdated]
      exact hbit
    refine ⟨hbit', ?_, fun _ => ?_⟩
    · simpa [hphase'] using hphase
    · simpa [haddr'] using haddr hp

/-- The deferred advance never reaches SETTINGS_SAVE, which is a command (R173). -/
theorem State.NoSaveComing.receive {s t : State} {b : Byte} (hs : s.NoSaveComing) (h : s.receive b = .next t) :
    t.NoSaveComing := by
  have ⟨hbit, hphase, _⟩ := hs
  obtain ⟨haddr, -⟩ | ⟨hp, hdata⟩ | ⟨-, rfl⟩ := State.receive_cases h
  · exact absurd haddr hphase
  · obtain ⟨-, hb⟩ | ⟨-, hn, hb⟩ | ⟨-, rfl⟩ := State.rxData_next hdata
    · exact hs.stageByte hp hb
    · have hnext : s.bus.activeAddr + 1 ≠ Reg.settingsSave.addr := fun heq =>
        absurd (heq ▸ hn) (by decide)
      exact State.NoSaveComing.stageByte (s := s.advanced) ⟨hbit, hphase, fun _ => hnext⟩ hp hb
    · exact ⟨hbit, by simp, by simp⟩
  · exact hs

/-- The value bytes of such a transaction write no store and leave no save waiting. -/
theorem receiveAll_noSaveComing {bytes : List Byte} {s t : State} (hs : s.NoSaveComing)
    (h : receiveAll bytes s = .next t) : t.NoSaveComing ∧ t.nv = s.nv := by
  induction bytes generalizing s with
  | nil => exact Host.Outcome.next.inj h ▸ ⟨hs, rfl⟩
  | cons b bytes ih =>
    obtain ⟨u, hb, hrest⟩ := andThen_eq_next.mp h
    obtain ⟨-, hb⟩ | ⟨-, rfl⟩ := whenRunning_eq_next.mp hb
    · obtain ⟨ht, hnv⟩ := ih (hs.receive hb) hrest
      exact ⟨ht, hnv.trans (State.receive_nv hb)⟩
    · exact ih hs hrest

/-- A transaction to another address than SETTINGS_SAVE's writes no store, unless a save was waiting (R264). -/
theorem writeTransaction_nv {a : Byte} {bytes : List Byte} {s t : State} (ha : a ≠ Reg.settingsSave.addr)
    (hbit : s.bus.updated.getLsbD 12 = false) (h : writeTransaction (a :: bytes) s = .next t) : t.nv = s.nv := by
  cases hrun : s.run with
  | running =>
    rw [writeTransaction_running a bytes hrun] at h
    obtain ⟨u, hbytes, hend⟩ := andThen_eq_next.mp h
    obtain ⟨⟨hbit', -, -⟩, hnv⟩ :=
      receiveAll_noSaveComing (State.rxAddress_noSaveComing (s := s.startWrite) hbit ha) hbytes
    rw [execEndW_nv hbit' hend, hnv, State.rxAddress_eq, State.startWrite_nv]
  | halted =>
    rw [writeTransaction_halted _ hrun] at h
    exact Host.Outcome.next.inj h ▸ rfl

theorem readTransaction_nv {a : Byte} {s t : State} (ha : a ≠ Reg.settingsSave.addr)
    (hbit : s.bus.updated.getLsbD 12 = false) (h : readTransaction a s = .next t) : t.nv = s.nv := by
  obtain ⟨u, hselect, hreq⟩ := andThen_eq_next.mp h
  exact (execReq_nv hreq).trans (writeTransaction_nv ha hbit hselect)

/-- The only row of the class WR at SETTINGS_SAVE's address is SETTINGS_SAVE (R110). -/
theorem matchByte_of_write {i : Instr} (hc : i.opClass = .write) (hi : ∀ v, i ≠ .wrSettingsSave v) :
    i.matchByte ≠ Reg.settingsSave.addr := by
  cases i with
  | wrSettingsSave v => exact absurd rfl (hi v)
  | _ => cases hc <;> simp [Instr.matchByte, Reg.addr]

/-- SETTINGS_SAVE is write-only: no row of the class RD has its address (R110). -/
theorem matchByte_of_read {i : Instr} (hc : i.opClass = .read) : i.matchByte ≠ Reg.settingsSave.addr := by
  cases i <;> cases hc <;> decide

/-- R264, R415: the store changes by a SETTINGS_SAVE write or by a save that was waiting only; a reset keeps it. -/
theorem exec_nv {i : Instr} {s t : State} (h : exec i s = .next t) (hbit : s.bus.updated.getLsbD 12 = false)
    (hsave : ∀ v, i ≠ .wrSettingsSave v) : t.nv = s.nv := by
  cases hc : i.opClass with
  | write =>
    obtain ⟨bytes, hrow⟩ := exec_of_write hc
    exact writeTransaction_nv (matchByte_of_write hc hsave) hbit ((hrow s).symm.trans h)
  | read => exact readTransaction_nv (matchByte_of_read hc) hbit ((exec_of_read hc s).symm.trans h)
  | event =>
    cases i with
    | por => exact Host.Outcome.next.inj h ▸ s.resetCore_nv
    | wdt => exact Host.Outcome.next.inj h ▸ s.resetCore_nv
    | tick => exact whenRunning_nv (f := fun u => (u.tickMotor .m1).tickMotor .m2) (by simp) h
    | enc m b => exact whenRunning_nv (f := fun u => u.mapMotor m (fun r => r.countEdge b)) (s.mapMotor_nv m _) h
    | adc v => exact whenRunning_nv (f := fun u => u.sample v) (s.mapMotor_nv _ _) h
    | startW => exact whenRunning_nv s.startWrite_nv h
    | rx b => exact execRx_nv h
    | endW => exact execEndW_nv hbit h
    | req => exact execReq_nv h
    | _ => cases hc

/-- Settles O52, from the writers of each register. -/
theorem measurementsAndStoreHaveTheirWriters : Obligations.MeasurementsAndStoreHaveTheirWriters := by
  unfold Obligations.MeasurementsAndStoreHaveTheirWriters
  intro i s t h
  exact ⟨fun hreset _ henc => exec_encoderValue h hreset henc,
    fun hreset htick m => exec_currentRate_oldEnc h hreset htick m,
    fun hreset hadc => exec_adcChan_currentDraw h hreset hadc,
    fun hbit hsave => exec_nv h hbit hsave, exec_params_input h⟩

end Sys2Proof.Machine
end

section
/-! The trace codec: what each operand format decodes to, and which bytes it accepts; then the round trips between
`decode` and `encode` in both directions. -/

namespace Sys2Proof

/-! ### Decoding the encoded operands -/

theorem operand2_be2 (code : Byte) (f : Half → Instr) (v : Half) (rest : List Byte) :
    operand2 code f (be2 v ++ rest) = .ok (f v, rest) :=
  congrArg (fun w => Except.ok (f w, rest)) (fromBE_be2 v)

theorem operand4_be4 (code : Byte) (f : F32 → Instr) (v : F32) (rest : List Byte) :
    operand4 code f (be4 v ++ rest) = .ok (f v, rest) :=
  congrArg (fun w => Except.ok (f w, rest)) (fromBE_be4 v)

theorem decodeEnc_encOperand (m : MotorId) (b : Bool) (rest : List Byte) :
    decodeEnc (encOperand m b :: rest) = .ok (.enc m b, rest) := by
  cases m <;> cases b <;> rfl

/-- The operand of `ADC` survives its two bytes when it is well formed (R121). -/
theorem operand2_adc {v : Nat} (hv : v < 65536) (code : Byte) (rest : List Byte) :
    operand2 code (fun w => .adc w.toNat) (be2 (BitVec.ofNat 16 v) ++ rest) = .ok (.adc v, rest) := by
  rw [operand2_be2, BitVec.toNat_ofNat, Nat.mod_eq_of_lt hv]

/-- Settles O2: by the operand format of the row; a row without operand or with one byte is read off directly. -/
theorem decodeInvertsEncode : Obligations.DecodeInvertsEncode := by
  unfold Obligations.DecodeInvertsEncode
  intro i rest hwf
  cases i with
  | wrM1TargetRate v => exact operand2_be2 writeTag .wrM1TargetRate v rest
  | wrM2TargetRate v => exact operand2_be2 writeTag .wrM2TargetRate v rest
  | wrPidKp f => exact operand4_be4 writeTag .wrPidKp f rest
  | wrPidKi f => exact operand4_be4 writeTag .wrPidKi f rest
  | wrPidKd f => exact operand4_be4 writeTag .wrPidKd f rest
  | enc m b => exact decodeEnc_encOperand m b rest
  | adc v => exact operand2_adc (of_decide_eq_true hwf) 0x04 rest
  | _ => rfl

/-- Settles O4: each word is the encoding of its operation, with the bytes that follow it. -/
theorem wordsOfTheSpecDecode : Obligations.WordsOfTheSpecDecode := by
  unfold Obligations.WordsOfTheSpecDecode
  have word := decodeInvertsEncode
  exact ⟨word .wdt [] rfl, word .tick [0x02] rfl, word (.enc .m2 true) [] rfl, word (.adc 291) [] rfl,
    word (.rx 0xC8) [0x07] rfl, word .req [] rfl, word (.wrM1TargetRate 0x0064) [] rfl,
    word .rdM2Encoder [0x08] rfl⟩

/-! ### The bytes an accepted operation came from -/

/-- Whatever `result` accepts is well formed, and `tag` before `bytes` is its encoding and the bytes left over. -/
def Reencodes (tag bytes : List Byte) (result : DecodeResult) : Prop :=
  ∀ (i : Instr) (rest : List Byte), result = .ok (i, rest) → i.WellFormed ∧ tag ++ bytes = encode i ++ rest

theorem byte_eq_ofNat {a : Byte} {n : Nat} (h : a.toNat = n) : a = BitVec.ofNat 8 n := by
  subst h
  simp

theorem Reencodes.error (tag bytes : List Byte) (e : DecodeError) : Reencodes tag bytes (.error e) :=
  fun _ _ h => nomatch h

section Rows

variable {tag bytes : List Byte} {a : Byte} {n : Nat} (ha : a.toNat = n)
include ha

/-- A row without operand accepts its own byte alone. -/
theorem Reencodes.row0 {i : Instr} (hwf : i.WellFormed) (henc : encode i = tag ++ [BitVec.ofNat 8 n]) :
    Reencodes tag (a :: bytes) (operand0 i bytes) := by
  intro j rest h
  cases h
  exact ⟨hwf, by simp [henc, byte_eq_ofNat ha]⟩

/-- A row with a one-byte operand. -/
theorem Reencodes.row1 {code : Byte} {f : Byte → Instr} (hwf : ∀ v, (f v).WellFormed)
    (henc : ∀ v, encode (f v) = tag ++ [BitVec.ofNat 8 n, v]) :
    Reencodes tag (a :: bytes) (operand1 code f bytes) := by
  intro j rest h
  unfold operand1 at h
  split at h <;> cases h
  exact ⟨hwf _, by simp [henc, byte_eq_ofNat ha]⟩

/-- A row with a two-byte operand: the two bytes are the operand's, most significant first. -/
theorem Reencodes.row2 {code : Byte} {f : Half → Instr} (hwf : ∀ v, (f v).WellFormed)
    (henc : ∀ v, encode (f v) = tag ++ BitVec.ofNat 8 n :: be2 v) :
    Reencodes tag (a :: bytes) (operand2 code f bytes) := by
  intro j rest h
  unfold operand2 at h
  split at h <;> cases h
  exact ⟨hwf _, by simp [henc, byte_eq_ofNat ha, be2_fromBE]⟩

/-- A row with a four-byte operand. -/
theorem Reencodes.row4 {code : Byte} {f : F32 → Instr} (hwf : ∀ v, (f v).WellFormed)
    (henc : ∀ v, encode (f v) = tag ++ BitVec.ofNat 8 n :: be4 v) :
    Reencodes tag (a :: bytes) (operand4 code f bytes) := by
  intro j rest h
  unfold operand4 at h
  split at h <;> cases h
  exact ⟨hwf _, by simp [henc, byte_eq_ofNat ha, be4_fromBE]⟩

end Rows

/-- An `ENC` operand with bits 7:2 clear is the operand of the motor and the level read from it (R121). -/
theorem encOperand_of_reserved_clear {b : Byte} (h : b.extractLsb' 2 6 = 0) :
    encOperand (motorOfBit (b.getLsbD 1)) (b.getLsbD 0) = b := by
  revert b
  decide

theorem Reencodes.enc {a : Byte} (ha : a.toNat = 0x03) (bytes : List Byte) :
    Reencodes [] (a :: bytes) (decodeEnc bytes) := by
  intro j rest h
  cases bytes with
  | nil => cases h
  | cons b bytes =>
    unfold decodeEnc at h
    dsimp only at h
    split at h <;> cases h
    rename_i hclear
    refine ⟨rfl, ?_⟩
    rw [encode, encOperand_of_reserved_clear hclear, byte_eq_ofNat ha]
    rfl

/-- A class tag and what decodes after it. -/
theorem Reencodes.tagged {c t : Byte} {bytes : List Byte} {result : DecodeResult} (hc : c.toNat = t.toNat)
    (h : Reencodes [t] bytes result) : Reencodes [] (c :: bytes) result := by
  obtain rfl := BitVec.eq_of_toNat_eq hc
  exact h

/-- Rows of the class WR: the numbered branches are the rows in the order of their addresses (R102, R110). -/
theorem decodeWrite_reencodes (bytes : List Byte) : Reencodes [writeTag] bytes (decodeWrite bytes) := by
  cases bytes with
  | nil => exact .error _ _ _
  | cons a bytes =>
    unfold decodeWrite
    dsimp only
    split
    case h_3 ha | h_6 ha => exact .row2 ha (fun _ => rfl) (fun _ => rfl)
    case h_7 ha | h_8 ha | h_9 ha => exact .row4 ha (fun _ => rfl) (fun _ => rfl)
    case h_14 ha | h_15 ha => exact .row0 ha rfl rfl
    case h_16 => exact .error _ _ _
    all_goals exact .row1 ‹_› (fun _ => rfl) (fun _ => rfl)

/-- Rows of the class RD: an address byte and no operand (R103, R110). -/
theorem decodeRead_reencodes (bytes : List Byte) : Reencodes [readTag] bytes (decodeRead bytes) := by
  cases bytes with
  | nil => exact .error _ _ _
  | cons a bytes =>
    unfold decodeRead
    dsimp only
    split
    case h_29 => exact .error _ _ _
    all_goals exact .row0 ‹_› rfl rfl

/-- The whole trace: `ENC`, `ADC`, `RX`, the two classes behind their tags, and the events without operand (R121). -/
theorem decode_reencodes (bytes : List Byte) : Reencodes [] bytes (decode bytes) := by
  cases bytes with
  | nil => exact .error _ _ _
  | cons c bytes =>
    unfold decode
    dsimp only
    split
    case h_4 hc => exact .enc hc bytes
    case h_5 hc => exact .row2 hc (fun v => decide_eq_true v.isLt) (fun v => by simp [encode])
    case h_7 hc => exact .row1 hc (fun _ => rfl) (fun _ => rfl)
    case h_10 hc => exact .tagged (t := readTag) hc (decodeRead_reencodes bytes)
    case h_11 hc => exact .tagged (t := writeTag) hc (decodeWrite_reencodes bytes)
    case h_12 => exact .error _ _ _
    all_goals exact .row0 ‹_› rfl rfl

/-- Settles O3. -/
theorem encodeInvertsDecode : Obligations.EncodeInvertsDecode := by
  unfold Obligations.EncodeInvertsDecode
  exact fun bytes i rest h => decode_reencodes bytes i rest h

end Sys2Proof
end

section
/-! No operation faults under the invariant (R118): each handler answers next and keeps the invariant, and a sequence
of such handlers does too. -/

namespace Sys2Proof.Machine

/-- From a state that meets the invariant, the handler answers a next state that meets it again. -/
def AnswersNext (f : State → Result) : Prop :=
  ∀ s : State, s.Inv → ∃ t, f s = .next t ∧ t.Inv

theorem AnswersNext.andThen {f g : State → Result} (hf : AnswersNext f) (hg : AnswersNext g) :
    AnswersNext (fun s => andThen (f s) g) := by
  intro s h
  obtain ⟨t, hft, ht⟩ := hf s h
  obtain ⟨u, hgu, hu⟩ := hg t ht
  exact ⟨u, andThen_eq_next.mpr ⟨t, hft, hgu⟩, hu⟩

/-- A halted core drops the event, so only the handler on a running core matters (R395). -/
theorem AnswersNext.whenRunning {f : State → Result} (hf : AnswersNext f) : AnswersNext (whenRunning f) := by
  intro s h
  cases hrun : s.run with
  | running =>
    rw [whenRunning_running f hrun]
    exact hf s h
  | halted => exact ⟨s, whenRunning_halted f hrun, h⟩

/-! ### Transport events -/

/-- A value byte for a writable register with a payload is staged or committed (R174). -/
theorem State.stageByte_answers {s : State} {r : Reg} (b : Byte) (hr : regAt s.bus.activeAddr = some r)
    (hw : r.writable = true) (hwidth : 0 < r.width) : ∃ t, s.stageByte b = .next t := by
  have hroutine : (s.writeReg (fromBE (s.bus.stage ++ [b])) r).isSome = true := by
    simp [State.writeReg_isSome, hw, hwidth]
  obtain ⟨u, hu⟩ := Option.isSome_iff_exists.mp hroutine
  simp only [State.stageByte, hr, State.commitField, hu]
  split
  · exact ⟨_, rfl⟩
  · exact ⟨_, rfl⟩

/-- In the data phase the active register takes value bytes (R53 e), and so does the one an advance leads to. -/
theorem State.Inv.rxData_answers {s : State} (b : Byte) (h : s.Inv) (hp : s.bus.rxPhase = .data) :
    ∃ t, s.rxData b = .next t := by
  obtain ⟨-, hstaging, -⟩ := h.bus
  obtain ⟨r, hr⟩ := h.bus.active
  obtain ⟨hw, hroom, -⟩ := (BusRegs.stagingOk_data hp hr).mp hstaging
  unfold State.rxData
  split
  · dsimp only
    split
    · rename_i hwritable
      obtain ⟨-, hn⟩ := (Bool.and_eq_true _ _).mp hwritable
      obtain ⟨q, hq, hqw, hqwidth⟩ := dataWritable_cases hn
      exact State.stageByte_answers (s := s.advanced) b hq hqw hqwidth
    · exact ⟨_, rfl⟩
  · exact State.stageByte_answers b hr hw (Nat.zero_lt_of_lt hroom)

theorem State.receive_answersNext (b : Byte) : AnswersNext (fun s => s.receive b) := by
  intro s h
  have hnext : ∃ t, s.receive b = .next t := by
    cases hp : s.bus.rxPhase with
    | addr => exact ⟨s.rxAddress b, by simp [State.receive, hp]⟩
    | data =>
      obtain ⟨t, ht⟩ := h.rxData_answers b hp
      exact ⟨t, by simpa [State.receive, hp] using ht⟩
    | discard => exact ⟨s, s.receive_dropped b (.inl hp)⟩
    | idle => exact ⟨s, s.receive_dropped b (.inr hp)⟩
  obtain ⟨t, ht⟩ := hnext
  exact ⟨t, ht, h.receive ht⟩

theorem execStartW_answersNext : AnswersNext execStartW :=
  .whenRunning fun s h => ⟨s.startWrite, rfl, h.startWrite⟩

theorem execRx_answersNext (b : Byte) : AnswersNext (execRx b) :=
  (State.receive_answersNext b).whenRunning

theorem execEndW_answersNext : AnswersNext execEndW :=
  .whenRunning fun s h => ⟨s.endWrite, rfl, h.endWrite⟩

/-- The active address is mapped (R53 d), so the read is defined (R76). -/
theorem execReq_answersNext : AnswersNext execReq := by
  intro s h
  cases hrun : s.run with
  | running =>
    obtain ⟨hmapped, -, -⟩ := h.bus
    obtain ⟨block, hblock⟩ := Option.isSome_iff_exists.mp ((s.memRead_isSome _).trans hmapped)
    exact ⟨{ s with readBlock := some block }, by simp [execReq_running hrun, State.request, hblock], h⟩
  | halted => exact ⟨{ s with readBlock := none }, by simp [execReq, hrun], h⟩

/-! ### Transactions and operations -/

theorem receiveAll_answersNext (bytes : List Byte) : AnswersNext (receiveAll bytes) := by
  induction bytes with
  | nil => exact fun s h => ⟨s, rfl, h⟩
  | cons b bytes ih => exact (execRx_answersNext b).andThen ih

theorem writeTransaction_answersNext (bytes : List Byte) : AnswersNext (writeTransaction bytes) :=
  execStartW_answersNext.andThen ((receiveAll_answersNext bytes).andThen execEndW_answersNext)

theorem readTransaction_answersNext (addr : Byte) : AnswersNext (readTransaction addr) :=
  (writeTransaction_answersNext [addr]).andThen execReq_answersNext

/-- Every operation, by the class of its row. -/
theorem exec_answersNext (i : Instr) : AnswersNext (exec i) := by
  cases hc : i.opClass with
  | write =>
    obtain ⟨bytes, hrow⟩ := exec_of_write hc
    exact funext hrow ▸ writeTransaction_answersNext _
  | read => exact funext (exec_of_read hc) ▸ readTransaction_answersNext _
  | event =>
    cases i with
    | por => exact fun s _ => ⟨s.resetCore, rfl, s.resetCore_inv⟩
    | wdt => exact fun s _ => ⟨s.resetCore, rfl, s.resetCore_inv⟩
    | tick =>
      exact .whenRunning fun s h => ⟨(s.tickMotor .m1).tickMotor .m2, rfl, (h.tickMotor .m1).tickMotor .m2⟩
    | enc m b =>
      exact .whenRunning fun s h => ⟨_, rfl, h.mapMotor fun _ => MotorRegs.countEdge_inv b⟩
    | adc v => exact .whenRunning fun s h => ⟨s.sample v, rfl, h.sample v⟩
    | startW => exact execStartW_answersNext
    | rx b => exact execRx_answersNext b
    | endW => exact execEndW_answersNext
    | req => exact execReq_answersNext
    | _ => cases hc

/-- No branch of a step faults: the idle step and the refusal are no faults, and the operation answers next. -/
theorem State.Inv.safeStep {s : State} (h : s.Inv) : SafeStep s := by
  intro r
  by_cases hnil : s.input = []
  · simp [step_of_input_nil hnil]
  · cases hdec : decode s.input with
    | error e => simp [step_of_decode_error hnil hdec]
    | ok head =>
      obtain ⟨i, rest⟩ := head
      obtain ⟨t, ht, -⟩ := exec_answersNext i { s with input := rest } h
      simp [step_of_decode_ok hdec, ht]

/-- Settles O59. -/
theorem noStepFaultsUnderTheInvariant : Obligations.NoStepFaultsUnderTheInvariant := by
  unfold Obligations.NoStepFaultsUnderTheInvariant
  refine ⟨fun s h => h.safeStep, fun s i h => ?_⟩
  obtain ⟨t, ht, -⟩ := exec_answersNext i s h
  exact ⟨t, ht⟩

end Sys2Proof.Machine
end

section
/-! Transactions: every row is the run of its transport events (R100 to R103), what a transaction to a register that
takes no bytes does (R115, R116, R176), and a burst over the registers of one motor (R104). -/

namespace Sys2Proof.Machine

/-! ### Rows as runs of their events -/

theorem runAll_singleton (i : Instr) (s : State) : runAll [i] s = exec i s := by
  rw [runAll_cons]
  cases exec i s <;> rfl

/-- Settles O5: by the class of the row, a line `W`, a line `RD`, or the event itself. -/
theorem rowIsItsTransaction : Obligations.RowIsItsTransaction := by
  unfold Obligations.RowIsItsTransaction
  intro i s
  cases hc : i.opClass with
  | write => cases i <;> cases hc <;> exact (runAll_lineW _ s).symm
  | read => cases i <;> cases hc <;> exact (runAll_lineRd _ s).symm
  | event => cases i <;> cases hc <;> exact (runAll_singleton _ s).symm

/-! ### Dropped value bytes -/

/-- A transaction whose address byte leads to the discard phase: the value bytes change nothing, whatever they are, and
the end finds no pending work. `b` is the address that is active afterwards. -/
theorem writeTransaction_discarded {s : State} {a b : Byte} (bytes : List Byte) (hs : s.Ready)
    (hrx : s.startWrite.rxAddress a = (s.startWrite.select b).setPhase .discard) :
    writeTransaction (a :: bytes) s = .next (s.ended b) := by
  obtain ⟨hrun, hupdated⟩ := hs
  rw [writeTransaction_running a bytes hrun, hrx, receiveAll_discard bytes rfl, andThen_next,
    execEndW_running (by simpa using hrun), State.endWrite_of_updated_zero (by simpa using hupdated)]
  rfl

/-- A read-only register is selected and takes no bytes (R116, R172). -/
theorem State.rxAddress_of_readOnly (s : State) {r : Reg} (h : r.access = .readOnly) :
    s.rxAddress r.addr = (s.select r.addr).setPhase .discard := by
  rw [s.rxAddress_of_mapped (regAt_addr r)]
  cases r with
  | motor m r => cases r <;> cases h <;> rfl
  | _ => cases h

/-- Settles O13: both kinds of address lead to the discard phase; an unmapped one leaves the active address alone. -/
theorem readOnlyAndUnmappedWritesAreDropped : Obligations.ReadOnlyAndUnmappedWritesAreDropped := by
  unfold Obligations.ReadOnlyAndUnmappedWritesAreDropped
  refine fun s bytes hs => ⟨fun r hr => ?_, fun a ha => ?_⟩
  · rw [runAll_lineW]
    exact writeTransaction_discarded bytes hs (s.startWrite.rxAddress_of_readOnly hr)
  · rw [runAll_lineW]
    exact writeTransaction_discarded bytes hs (s.startWrite.rxAddress_of_unmapped ha)

/-! ### Fields of one transaction (R104, R173, R174) -/

theorem receiveAll_append (l1 l2 : List Byte) (s : State) :
    receiveAll (l1 ++ l2) s = andThen (receiveAll l1 s) (receiveAll l2) := by
  induction l1 generalizing s with
  | nil => rfl
  | cons b l1 ih =>
    rw [List.cons_append, receiveAll_cons, receiveAll_cons, andThen_assoc]
    exact congrArg (andThen (execRx b s)) (funext ih)

theorem State.receive_data {s : State} (b : Byte) (hp : s.bus.rxPhase = .data) : s.receive b = s.rxData b := by
  simp only [State.receive, hp]

/-- The byte after a complete field belongs to the next address, where both addresses take such bytes (R173). -/
theorem execRx_advance {s : State} (b : Byte) (hrun : s.run = .running) (hp : s.bus.rxPhase = .data)
    (hadv : s.bus.advPending = true) (hw : dataWritable s.bus.activeAddr = true)
    (hn : dataWritable (s.bus.activeAddr + 1) = true) : execRx b s = execRx b s.advanced := by
  have hstage : s.rxData b = s.advanced.stageByte b := by
    simp only [State.rxData, hadv, hw, hn, Bool.and_self, if_true]
    rfl
  have hstage' : s.advanced.rxData b = s.advanced.stageByte b := rfl
  rw [execRx_running b hrun, execRx_running (s := s.advanced) b hrun, State.receive_data b hp,
    State.receive_data (s := s.advanced) b hp, hstage, hstage']

/-- A transaction over the registers of motor `i` after the complete field of its register `r`: the motor stands at
`m`, the bits of the fields so far in `u`, and the advance waits for a further byte (R174). -/
def State.midBurst (s : State) (i : MotorId) (m : MotorRegs) (r : MotorReg) (u : BitVec 16) : State :=
  { s.setMotor i m with bus :=
    { s.bus with
      activeAddr := motorAddr i r
      rxPhase := .data
      stage := []
      advPending := true
      updated := u } }

theorem State.midBurst_run (s : State) (i : MotorId) (m : MotorRegs) (r : MotorReg) (u : BitVec 16) :
    (s.midBurst i m r u).run = s.run :=
  s.setMotor_run i m

/-- The commit of a field for a motor register, from any protocol state that receives it. -/
theorem receiveAll_motorField {s : State} {i : MotorId} {m : MotorRegs} {r : MotorReg} {k : Nat} {bytes : List Byte}
    (hs : s.Receiving (.motor i r)) (hlen : bytes.length = r.width) (h0 : bytes ≠ [])
    (hm : (s.motor i).write (fromBE bytes) r = some m) (hk : (Reg.motor i r).updatedBit = some k) :
    receiveAll bytes s = .next (s.midBurst i m r (markUpdated s.bus.updated k)) := by
  have hu : s.writeReg (fromBE bytes) (.motor i r) = some (s.setMotor i m) := by
    simp only [State.writeReg, hm, Option.map_some]
  rw [receiveAll_field hs hlen h0 hu]
  obtain ⟨-, hp, -, -, haddr⟩ := hs
  have hactive : motorAddr i r = s.bus.activeAddr := addr_of_regAt haddr
  simp only [State.midBurst, State.markUpdated, hk, State.setMotor_bus, hactive, hp]

/-- The first field of a transaction, after the register's address byte (R172, R174). -/
theorem receiveAll_firstMotorField {s : State} {i : MotorId} {m : MotorRegs} {r : MotorReg} {k : Nat}
    {bytes : List Byte} (hrun : s.run = .running) (hw : (Reg.motor i r).writable = true)
    (hlen : bytes.length = r.width) (h0 : bytes ≠ []) (hm : (s.motor i).write (fromBE bytes) r = some m)
    (hk : (Reg.motor i r).updatedBit = some k) :
    receiveAll bytes (s.startWrite.rxAddress (motorAddr i r)) =
      .next (s.midBurst i m r (markUpdated s.bus.updated k)) := by
  have hwidth : 0 < r.width := hlen ▸ List.length_pos_iff.mpr h0
  have haddress := s.startWrite.rxAddress_of_mapped (regAt_addr (.motor i r))
  obtain ⟨hselect, hreceiving⟩ := State.startWrite_selectReg_receiving hrun hw hwidth
  have hm' : (((s.startWrite.select (motorAddr i r)).setPhase .data).motor i).write (fromBE bytes) r = some m := by
    cases i <;> exact hm
  rw [motorAddr, haddress, hselect, receiveAll_motorField hreceiving hlen h0 hm' hk]
  cases i <;> rfl

/-- The advance from one register of a motor to the next leaves the core receiving that register's bytes (R173). -/
theorem State.midBurst_advanced_receiving {s : State} {i : MotorId} {q r : MotorReg} (m : MotorRegs) (u : BitVec 16)
    (hrun : s.run = .running) (hnext : motorAddr i q + 1 = motorAddr i r) :
    (s.midBurst i m q u).advanced.Receiving (.motor i r) := by
  refine ⟨(s.midBurst_run i m q u).trans hrun, rfl, rfl, rfl, ?_⟩
  have hactive : (s.midBurst i m q u).advanced.bus.activeAddr = motorAddr i r := hnext
  rw [hactive]
  exact regAt_addr (.motor i r)

/-- A further field: the address advances to the next register, which takes the bytes (R173, R174). -/
theorem receiveAll_nextMotorField {s : State} {i : MotorId} {m m' : MotorRegs} {q r : MotorReg} {u : BitVec 16}
    {k : Nat} {bytes : List Byte} (hrun : s.run = .running) (hnext : motorAddr i q + 1 = motorAddr i r)
    (hq : dataWritable (motorAddr i q) = true) (hr : dataWritable (motorAddr i r) = true)
    (hlen : bytes.length = r.width) (h0 : bytes ≠ []) (hm : m.write (fromBE bytes) r = some m')
    (hk : (Reg.motor i r).updatedBit = some k) :
    receiveAll bytes (s.midBurst i m q u) = .next (s.midBurst i m' r (markUpdated u k)) := by
  have hadvance : receiveAll bytes (s.midBurst i m q u) = receiveAll bytes (s.midBurst i m q u).advanced := by
    obtain ⟨b, bytes, rfl⟩ := List.exists_cons_of_ne_nil h0
    rw [receiveAll_cons, receiveAll_cons,
      execRx_advance (s := s.midBurst i m q u) b ((s.midBurst_run i m q u).trans hrun) rfl rfl hq (hnext ▸ hr)]
  have hm' : ((s.midBurst i m q u).advanced.motor i).write (fromBE bytes) r = some m' := by
    cases i <;> exact hm
  rw [hadvance, receiveAll_motorField (State.midBurst_advanced_receiving m u hrun hnext) hlen h0 hm' hk]
  cases i <;> rfl

/-- Bits that ask for the recomputation of motor `i` and for no other work (R180). -/
def onlyUpdates (u : BitVec 16) (i : MotorId) : Bool :=
  needsUpdate u i && !needsUpdate u i.other && !u.getLsbD 12 && !u.getLsbD 13 && !u.getLsbD 14

/-- The end of a transaction with no other work pending than the recomputation of one motor (R180). -/
theorem State.endWrite_of_onlyUpdates {s : State} {i : MotorId} (h : onlyUpdates s.bus.updated i = true) :
    s.endWrite = s.closeTransaction.update i := by
  simp only [onlyUpdates, Bool.and_eq_true, Bool.not_eq_true'] at h
  obtain ⟨⟨⟨⟨hi, hother⟩, hsave⟩, hload⟩, hreset⟩ := h
  have hupdates : ∀ t : State, (t.updateIf s.bus.updated .m1).updateIf s.bus.updated .m2 = t.update i := by
    cases i <;> simp only [MotorId.other] at hother <;> simp [State.updateIf, hi, hother]
  simp only [State.endWrite, State.processUpdated, hupdates, hsave, hload, hreset, Bool.false_eq_true, if_false]

/-- The end of a burst over one motor: `UPDATE` of that motor, once (R180). -/
theorem State.midBurst_endWrite {s : State} {i : MotorId} {m : MotorRegs} {r : MotorReg} {u : BitVec 16}
    (hu : onlyUpdates u i = true) :
    (s.midBurst i m r u).endWrite = (s.setMotor i (m.update s.tun.minPower)).ended (motorAddr i r) := by
  rw [State.endWrite_of_onlyUpdates (s := s.midBurst i m r u) hu]
  cases i <;> rfl

/-! ### The burst over control, power and target rate -/

/-- The read-write registers of a motor take bytes one after another (R111). -/
theorem dataWritable_motorAddr (i : MotorId) {r : MotorReg} (h : r.access = .readWrite) :
    dataWritable (motorAddr i r) = true := by
  cases i <;> cases r <;> cases h <;> rfl

/-- Control, power and target rate stand at consecutive addresses (R110). -/
theorem motorAddr_succ (i : MotorId) :
    motorAddr i .control + 1 = motorAddr i .power ∧ motorAddr i .power + 1 = motorAddr i .targetRate := by
  cases i <;> decide

/-- The `updated` bit of a motor's control register. -/
def controlBit : MotorId → Nat
  | .m1 => 0
  | .m2 => 3

/-- Power and target rate have the two bits after the control register's (R110). -/
theorem Reg.updatedBit_motor (i : MotorId) :
    (Reg.motor i .control).updatedBit = some (controlBit i) ∧
      (Reg.motor i .power).updatedBit = some (controlBit i + 1) ∧
      (Reg.motor i .targetRate).updatedBit = some (controlBit i + 2) := by
  cases i <;> decide

/-- The bitmap with the bits of the three registers set (R46). -/
def burstBits (u : BitVec 16) (i : MotorId) : BitVec 16 :=
  markUpdated (markUpdated (markUpdated u (controlBit i)) (controlBit i + 1)) (controlBit i + 2)

theorem onlyUpdates_burstBits (i : MotorId) : onlyUpdates (burstBits 0 i) i = true := by
  cases i <;> decide

/-- The three fields of a motor burst, each at the address after the one before it. -/
theorem receiveAll_motorBurst {s : State} (i : MotorId) (c p : Byte) (t : Half) (hrun : s.run = .running) :
    receiveAll ([c] ++ ([p] ++ be2 t)) (s.startWrite.rxAddress (motorAddr i .control)) =
      .next (s.midBurst i { (s.motor i).commitControl c with setPower := p, targetRate := t } .targetRate
        (burstBits s.bus.updated i)) := by
  obtain ⟨hpower, hrate⟩ := motorAddr_succ i
  obtain ⟨hbit0, hbit1, hbit2⟩ := Reg.updatedBit_motor i
  have hcommit : (s.motor i).write (fromBE [c]) .control = some ((s.motor i).commitControl c) := by
    rw [MotorRegs.write, asByte_fromBE]
  have hsetPower (m : MotorRegs) : m.write (fromBE [p]) .power = some { m with setPower := p } := by
    rw [MotorRegs.write, asByte_fromBE]
  have hsetRate (m : MotorRegs) : m.write (fromBE (be2 t)) .targetRate = some { m with targetRate := t } := by
    rw [MotorRegs.write, asHalf_fromBE]
  rw [receiveAll_append, receiveAll_firstMotorField hrun rfl rfl (by simp) hcommit hbit0, andThen_next,
    receiveAll_append,
    receiveAll_nextMotorField hrun hpower (dataWritable_motorAddr i rfl) (dataWritable_motorAddr i rfl) rfl (by simp)
      (hsetPower _) hbit1,
    andThen_next,
    receiveAll_nextMotorField hrun hrate (dataWritable_motorAddr i rfl) (dataWritable_motorAddr i rfl) rfl
      (by simp [be2]) (hsetRate _) hbit2,
    burstBits]

/-- Settles O15: the three fields, then the end of the transaction with the one `UPDATE` their bits ask for. -/
theorem motorBurstWritesThreeRegisters : Obligations.MotorBurstWritesThreeRegisters := by
  unfold Obligations.MotorBurstWritesThreeRegisters
  intro s i c p t ⟨hrun, hupdated⟩
  have hline : lineBurst (motorAddr i .control) [[c], [p], be2 t] =
      lineW (motorAddr i .control :: ([c] ++ ([p] ++ be2 t))) := rfl
  rw [hline, runAll_lineW, writeTransaction_running _ _ hrun, receiveAll_motorBurst i c p t hrun, andThen_next,
    execEndW_running ((s.midBurst_run i _ _ _).trans hrun), hupdated,
    State.midBurst_endWrite (onlyUpdates_burstBits i)]
  rfl

end Sys2Proof.Machine
end

section
/-! The rounding of R147: the fields of an assembled pattern, division to the nearest integer, and `roundTo` as the
rational it stands for, rounded once. -/

namespace Sys2Proof.Machine

/-! ### Signs of integers -/

/-- The integer `v`, negated where the sign `s` is set. -/
def signed (s : Bool) (v : Int) : Int :=
  if s then -v else v

theorem valueOf_eq_signed (a : F32) : valueOf a = signed (signOf a) (magOf a) := rfl

@[simp] theorem natAbs_signed (s : Bool) (v : Int) : (signed s v).natAbs = v.natAbs := by
  cases s <;> simp [signed]

@[simp] theorem signed_signed (s : Bool) (v : Int) : signed s (signed s v) = v := by
  cases s <;> simp [signed]

@[simp] theorem dvd_signed {k : Int} (s : Bool) (v : Int) : k ∣ signed s v ↔ k ∣ v := by
  cases s <;> simp [signed]

theorem signed_mul_signed (s t : Bool) (v w : Int) : signed s v * signed t w = signed (s != t) (v * w) := by
  cases s <;> cases t <;> simp [signed]

theorem signed_mul (s : Bool) (v w : Int) : signed s v * w = signed s (v * w) := by
  cases s <;> simp [signed]

/-- Mirroring both ends by the sign `s` keeps their distance. -/
theorem natAbs_sub_signed (s : Bool) (v n d : Int) :
    (v * d - signed s n).natAbs = (signed s v * d - n).natAbs := by
  cases s
  · rfl
  · rw [← Int.natAbs_neg]
    congr 1
    simp only [signed, if_true]
    ring

theorem signed_natAbs (v : Int) : signed (decide (v < 0)) v.natAbs = v := by
  unfold signed
  split
  case isTrue h => rw [decide_eq_true_iff] at h; omega
  case isFalse h => rw [decide_eq_true_iff] at h; omega

theorem decide_signed_neg {n : Nat} (s : Bool) (hn : n ≠ 0) : decide (signed s n < 0) = s := by
  cases s
  · simp [signed]
  · simp only [signed, if_true, decide_eq_true_iff]
    omega

/-! ### Fields of an assembled pattern (R146) -/

theorem withSign_toNat (s : Bool) {p : Nat} (hp : p < 2 ^ 31) :
    (withSign s p).toNat = p + if s then 2 ^ 31 else 0 := by
  rw [withSign, BitVec.toNat_ofNat]
  split <;> omega

theorem signOf_withSign (s : Bool) {p : Nat} (hp : p < 2 ^ 31) : signOf (withSign s p) = s := by
  rw [signOf, ← BitVec.testBit_toNat, withSign_toNat s hp, Nat.testBit_eq_decide_div_mod_eq]
  cases s <;> simp <;> omega

theorem expOf_withSign (s : Bool) {p : Nat} (hp : p < 2 ^ 31) : expOf (withSign s p) = p / 2 ^ 23 := by
  rw [expOf, BitVec.extractLsb'_toNat, withSign_toNat s hp, Nat.shiftRight_eq_div_pow]
  split <;> omega

theorem fracOf_withSign (s : Bool) {p : Nat} (hp : p < 2 ^ 31) : fracOf (withSign s p) = p % 2 ^ 23 := by
  rw [fracOf, BitVec.extractLsb'_toNat, withSign_toNat s hp, Nat.shiftRight_eq_div_pow]
  split <;> omega

theorem getLsbD_zero_withSign_of_even (s : Bool) {p : Nat} (hp : p < 2 ^ 31) (heven : p % 2 = 0) :
    (withSign s p).getLsbD 0 = false := by
  rw [← BitVec.testBit_toNat, withSign_toNat s hp, Nat.testBit_eq_decide_div_mod_eq, decide_eq_false_iff_not]
  split <;> omega

/-- A significand `r` at `q` places of excess, assembled by the sum of `roundMag`: the carry of `r = 2^24` into the
exponent field doubles the place (R146). -/
theorem magOf_withSign (s : Bool) {r q : Nat} (hle : r ≤ 2 ^ 24) (hnormal : q = 0 ∨ 2 ^ 23 ≤ r)
    (hp : r + q * 2 ^ 23 < 2 ^ 31) : magOf (withSign s (r + q * 2 ^ 23)) = r * 2 ^ q := by
  rw [magOf, expOf_withSign s hp, fracOf_withSign s hp]
  obtain hsub | hnorm | hcarry : r < 2 ^ 23 ∨ (2 ^ 23 ≤ r ∧ r < 2 ^ 24) ∨ r = 2 ^ 24 := by omega
  · obtain rfl : q = 0 := by omega
    rw [if_pos (by omega)]
    omega
  · obtain ⟨hexp, hfrac⟩ : (r + q * 2 ^ 23) / 2 ^ 23 = q + 1 ∧ 2 ^ 23 + (r + q * 2 ^ 23) % 2 ^ 23 = r := by omega
    rw [hexp, if_neg (by omega), hfrac, Nat.add_sub_cancel]
  · subst hcarry
    obtain ⟨hexp, hfrac⟩ : (2 ^ 24 + q * 2 ^ 23) / 2 ^ 23 = q + 1 + 1 ∧ (2 ^ 24 + q * 2 ^ 23) % 2 ^ 23 = 0 := by
      omega
    rw [hexp, if_neg (by omega), hfrac, Nat.add_sub_cancel]
    ring

/-- Every value is a multiple of `2^q` or lies below the values that need `q` places of excess. -/
theorem pow_dvd_valueOf_or_lt (a : F32) (q : Nat) :
    2 ^ q ∣ valueOf a ∨ (valueOf a).natAbs < 2 ^ (23 + q) := by
  have hfrac : fracOf a < 2 ^ 23 := (a.extractLsb' 0 23).isLt
  rw [← Int.natAbs_dvd_natAbs, valueOf_eq_signed, natAbs_signed, Int.natAbs_pow, Int.natAbs_natCast, magOf]
  split
  case isTrue => exact .inr (hfrac.trans_le (Nat.pow_le_pow_right (by decide) (by omega)))
  case isFalse =>
    by_cases hq : q ≤ expOf a - 1
    · exact .inl (Dvd.dvd.mul_left (pow_dvd_pow 2 hq) _)
    · refine .inr ?_
      calc (2 ^ 23 + fracOf a) * 2 ^ (expOf a - 1) < 2 ^ 24 * 2 ^ (expOf a - 1) :=
            Nat.mul_lt_mul_of_pos_right (by omega) (by positivity)
        _ = 2 ^ (24 + (expOf a - 1)) := (pow_add ..).symm
        _ ≤ 2 ^ (23 + q) := Nat.pow_le_pow_right (by decide) (by omega)

/-! ### Division to the nearest integer -/

/-- The three branches of `divNearestEven`: down, up, and a tie that goes to the even neighbour. -/
theorem divNearestEven_cases (n d : Nat) :
    (divNearestEven n d = n / d ∧ 2 * (n % d) < d) ∨
    (divNearestEven n d = n / d + 1 ∧ d < 2 * (n % d)) ∨
    (divNearestEven n d % 2 = 0 ∧ 2 * (n % d) = d ∧
      (divNearestEven n d = n / d ∨ divNearestEven n d = n / d + 1)) := by
  unfold divNearestEven
  split_ifs <;> omega

theorem divNearestEven_bounds (n d : Nat) :
    n / d ≤ divNearestEven n d ∧ divNearestEven n d ≤ n / d + 1 := by
  have := divNearestEven_cases n d
  omega

theorem divNearestEven_of_dvd {n d : Nat} (hd : 0 < d) (h : d ∣ n) : divNearestEven n d = n / d := by
  have hmod := Nat.mod_eq_zero_of_dvd h
  rw [divNearestEven, if_pos (by omega)]

/-- An even integer is reached from half a unit below it on. -/
theorem le_divNearestEven_iff {n d k : Nat} (hd : 0 < d) (hk : k % 2 = 0) :
    k ≤ divNearestEven n d ↔ 2 * (d * k) ≤ 2 * n + d := by
  have hdiv := Nat.div_add_mod n d
  have hmod := Nat.mod_lt n hd
  have hcases := divNearestEven_cases n d
  obtain hlt | heq | hgt : k ≤ n / d ∨ k = n / d + 1 ∨ n / d + 2 ≤ k := by omega
  · have := Nat.mul_le_mul_left d hlt
    exact iff_of_true (by omega) (by omega)
  · have : d * k = d * (n / d) + d := by rw [heq, Nat.mul_succ]
    omega
  · have := Nat.mul_le_mul_left d hgt
    rw [Nat.mul_add] at this
    exact iff_of_false (by omega) (by omega)

/-- No integer multiple of `d` is nearer to `n`, and another one as near leaves the even choice. -/
theorem divNearestEven_nearest {n d : Nat} (hd : 0 < d) (k : Int) :
    ((divNearestEven n d : Int) * d - n).natAbs ≤ (k * d - n).natAbs ∧
    (((divNearestEven n d : Int) * d - n).natAbs = (k * d - n).natAbs →
      k = divNearestEven n d ∨ divNearestEven n d % 2 = 0) := by
  have hmod := Nat.mod_lt n hd
  have hcases := divNearestEven_cases n d
  have hoffset (j : Int) : j * d - n = (j - (n / d : Nat)) * d - (n % d : Nat) := by
    have hdiv : (d : Int) * (n / d : Nat) + (n % d : Nat) = n := by exact_mod_cast Nat.div_add_mod n d
    linear_combination hdiv
  have hr : (divNearestEven n d : Int) - (n / d : Nat) = 0 ∨ (divNearestEven n d : Int) - (n / d : Nat) = 1 := by
    omega
  rw [hoffset, hoffset k]
  obtain hk | hk | hk | hk : k - (n / d : Nat) ≤ -1 ∨ k - (n / d : Nat) = 0 ∨ k - (n / d : Nat) = 1 ∨
      2 ≤ k - (n / d : Nat) := by omega
  · have hfar := Int.mul_le_mul_of_nonneg_right hk (Int.natCast_nonneg d)
    obtain hr | hr := hr <;> rw [hr] <;> omega
  · obtain hr | hr := hr <;> rw [hr, hk] <;> omega
  · obtain hr | hr := hr <;> rw [hr, hk] <;> omega
  · have hfar := Int.mul_le_mul_of_nonneg_right hk (Int.natCast_nonneg d)
    obtain hr | hr := hr <;> rw [hr] <;> omega

/-! ### The rounded magnitude (R147) -/

/-- The significand that `roundMag` rounds to, before its cap. -/
def significand (n d : Nat) : Nat :=
  divNearestEven n (d * 2 ^ excessBits n d)

theorem roundMag_eq (n d : Nat) :
    roundMag n d = min (significand n d + excessBits n d * 2 ^ 23) 0x7F800000 := rfl

theorem roundMag_lt (n d : Nat) : roundMag n d < 2 ^ 31 := by
  rw [roundMag_eq]
  omega

/-- `excessBits` leaves a quotient of 24 bits at most, and of 24 bits exactly where it is not 0. -/
theorem quotient_bounds {n d : Nat} (hd : 0 < d) :
    n < 2 ^ (24 + excessBits n d) * d ∧
      (excessBits n d = 0 ∨ 2 ^ (23 + excessBits n d) * d ≤ n) := by
  have hlog : n / d < 2 ^ (Nat.log2 (n / d) + 1) := Nat.lt_log2_self
  constructor
  · rw [← Nat.div_lt_iff_lt_mul hd]
    exact hlog.trans_le (Nat.pow_le_pow_right (by decide) (by rw [excessBits]; omega))
  · refine or_iff_not_imp_left.mpr fun hq => ?_
    rw [← Nat.le_div_iff_mul_le hd]
    have hexact : 23 + excessBits n d = Nat.log2 (n / d) := by
      rw [excessBits] at hq ⊢
      omega
    rw [hexact]
    refine Nat.log2_self_le fun hzero => hq ?_
    rw [excessBits, hzero, Nat.log2_zero]

theorem significand_le {n d : Nat} (hd : 0 < d) : significand n d ≤ 2 ^ 24 := by
  have hlt : n / (d * 2 ^ excessBits n d) < 2 ^ 24 := by
    rw [Nat.div_lt_iff_lt_mul (by positivity)]
    calc n < 2 ^ (24 + excessBits n d) * d := (quotient_bounds hd).1
      _ = 2 ^ 24 * (d * 2 ^ excessBits n d) := by ring
  have hle := (divNearestEven_bounds n (d * 2 ^ excessBits n d)).2
  rw [significand]
  omega

theorem significand_normal {n d : Nat} (hd : 0 < d) :
    excessBits n d = 0 ∨ 2 ^ 23 ≤ significand n d := by
  refine (quotient_bounds hd).2.imp_right fun hle => ?_
  have hquot : 2 ^ 23 ≤ n / (d * 2 ^ excessBits n d) := by
    rw [Nat.le_div_iff_mul_le (by positivity)]
    calc 2 ^ 23 * (d * 2 ^ excessBits n d) = 2 ^ (23 + excessBits n d) * d := by ring
      _ ≤ n := hle
  exact hquot.trans (divNearestEven_bounds n _).1

/-- The cap is reached from `overflowBound` on: the tie at that bound goes to the even neighbour, which is the one
past the largest finite value. -/
theorem overflow_iff {n d : Nat} (hd : 0 < d) :
    d * overflowBound ≤ n ↔ 0x7F800000 ≤ significand n d + excessBits n d * 2 ^ 23 := by
  have hsig := significand_le (n := n) hd
  have hnormal := significand_normal (n := n) hd
  obtain ⟨hlt, hge⟩ := quotient_bounds (n := n) hd
  obtain hq | hq | hq : excessBits n d < 253 ∨ excessBits n d = 253 ∨ 254 ≤ excessBits n d := by omega
  · have hsmall : 2 ^ (24 + excessBits n d) * d ≤ 2 ^ 24 * 2 ^ 252 * d := by
      rw [pow_add]
      exact Nat.mul_le_mul_right d (Nat.mul_le_mul_left _ (Nat.pow_le_pow_right (by decide) (by omega)))
    refine iff_of_false ?_ (by omega)
    rw [overflowBound]
    omega
  · have htie := le_divNearestEven_iff (n := n) (d := d * 2 ^ excessBits n d) (k := 2 ^ 24) (by positivity) (by decide)
    rw [← significand] at htie
    rw [hq] at htie ⊢
    rw [overflowBound]
    omega
  · have hlarge : 2 ^ 23 * 2 ^ 254 * d ≤ 2 ^ (23 + excessBits n d) * d := by
      rw [pow_add]
      exact Nat.mul_le_mul_right d (Nat.mul_le_mul_left _ (Nat.pow_le_pow_right (by decide) hq))
    refine iff_of_true ?_ (by omega)
    rw [overflowBound]
    omega

/-- The magnitude `n / d` rounded, without a cap: the significand at its place. -/
def roundedMag (n d : Nat) : Nat :=
  significand n d * 2 ^ excessBits n d

/-- Among the multiples of the significand's place, by `divNearestEven_nearest`. -/
theorem roundedMag_nearest_of_dvd {n d : Nat} {y : Int} (hd : 0 < d) (hy : 2 ^ excessBits n d ∣ y) :
    ((roundedMag n d : Int) * d - n).natAbs ≤ (y * d - n).natAbs ∧
    (((roundedMag n d : Int) * d - n).natAbs = (y * d - n).natAbs →
      y = roundedMag n d ∨ significand n d % 2 = 0) := by
  obtain ⟨k, rfl⟩ := hy
  have hplace : 0 < d * 2 ^ excessBits n d := by positivity
  have hscale (j : Int) : j * 2 ^ excessBits n d * d - n = j * (d * 2 ^ excessBits n d : Nat) - n := by
    push_cast
    ring
  obtain ⟨hle, htie⟩ := divNearestEven_nearest (n := n) hplace k
  rw [← significand] at hle htie
  rw [roundedMag, mul_comm _ k]
  push_cast
  rw [hscale, hscale]
  exact ⟨hle, fun h => (htie h).imp_left fun hk => by rw [hk]⟩

/-- Below a magnitude that does not exceed the target, everything is farther from it. -/
theorem natAbs_sub_lt_of_lt {m n d : Nat} {y : Int} (hd : 0 < d) (hm : m * d ≤ n) (hy : y.natAbs < m) :
    ((m : Int) * d - n).natAbs < (y * d - n).natAbs := by
  have hstep : (y + 1) * d ≤ m * d := Int.mul_le_mul_of_nonneg_right (by omega) (Int.natCast_nonneg d)
  rw [add_mul, one_mul] at hstep
  have hcast : (m : Int) * d ≤ n := by exact_mod_cast hm
  omega

/-- No value is nearer to `n / d`, and another one as near leaves an even significand (R147). A value that is no
multiple of the significand's place lies below all significands of 24 bits, so the least of those is nearer. -/
theorem roundedMag_nearest {n d : Nat} {y : Int} (hd : 0 < d)
    (hy : 2 ^ excessBits n d ∣ y ∨ y.natAbs < 2 ^ (23 + excessBits n d)) :
    ((roundedMag n d : Int) * d - n).natAbs ≤ (y * d - n).natAbs ∧
    (((roundedMag n d : Int) * d - n).natAbs = (y * d - n).natAbs →
      y = roundedMag n d ∨ significand n d % 2 = 0) := by
  by_cases hmul : 2 ^ excessBits n d ∣ y
  · exact roundedMag_nearest_of_dvd hd hmul
  · have hlow := hy.resolve_left hmul
    have hplace : excessBits n d ≠ 0 := fun h => hmul (by rw [h]; exact one_dvd y)
    have hfar := natAbs_sub_lt_of_lt hd ((quotient_bounds hd).2.resolve_left hplace) hlow
    have hleast : (2 : Int) ^ excessBits n d ∣ (2 ^ (23 + excessBits n d) : Nat) := by
      push_cast
      exact pow_dvd_pow 2 (Nat.le_add_left ..)
    have hnear := (roundedMag_nearest_of_dvd hd hleast).1
    exact ⟨by omega, by omega⟩

/-! ### `roundTo` (R147) -/

theorem signOf_roundTo (s : Bool) (n d : Nat) : signOf (roundTo s n d) = s :=
  signOf_withSign s (roundMag_lt n d)

theorem withSign_infinity (s : Bool) : withSign s 0x7F800000 = infinity s := by
  cases s <;> rfl

theorem roundTo_zero (s : Bool) : roundTo s 0 1 = zero s := by
  cases s <;> rfl

theorem roundTo_of_overflow {n d : Nat} (s : Bool) (hd : 0 < d) (h : d * overflowBound ≤ n) :
    roundTo s n d = infinity s := by
  rw [roundTo, roundMag_eq, Nat.min_eq_right ((overflow_iff hd).mp h), withSign_infinity]

/-- Below the overflow bound: the fields of the result, and the parity of its fraction. -/
theorem roundTo_of_lt {n d : Nat} (s : Bool) (hd : 0 < d) (h : n < d * overflowBound) :
    IsFinite (roundTo s n d) ∧ valueOf (roundTo s n d) = signed s (roundedMag n d) ∧
      (significand n d % 2 = 0 → (roundTo s n d).getLsbD 0 = false) := by
  have hfinite : significand n d + excessBits n d * 2 ^ 23 < 0x7F800000 := by
    rw [← Nat.not_le, ← overflow_iff hd]
    exact Nat.not_le.mpr h
  have hp : significand n d + excessBits n d * 2 ^ 23 < 2 ^ 31 := by omega
  have hround : roundTo s n d = withSign s (significand n d + excessBits n d * 2 ^ 23) := by
    rw [roundTo, roundMag_eq, Nat.min_eq_left hfinite.le]
  rw [hround]
  refine ⟨?_, ?_, fun heven => getLsbD_zero_withSign_of_even s hp (by omega)⟩
  · rw [IsFinite, expOf_withSign s hp]
    omega
  · rw [valueOf_eq_signed, signOf_withSign s hp, magOf_withSign s (significand_le hd) (significand_normal hd) hp,
      roundedMag]

/-- `roundTo` is the rational of its sign, numerator and denominator rounded once. -/
theorem roundTo_roundedOnce (s : Bool) {n d : Nat} (hd : 0 < d) : RoundedOnce (roundTo s n d) (signed s n) d := by
  rw [RoundedOnce, natAbs_signed, Int.natAbs_natCast]
  split
  case isTrue h =>
    have hbound : 0 < d * overflowBound := Nat.mul_pos hd (by decide)
    rw [decide_signed_neg s (by omega), roundTo_of_overflow s hd h]
  case isFalse h =>
    obtain ⟨hfinite, hvalue, heven⟩ := roundTo_of_lt s hd (Nat.not_le.mp h)
    refine ⟨hfinite, fun x _ => ?_⟩
    have hx : 2 ^ excessBits n d ∣ signed s (valueOf x) ∨
        (signed s (valueOf x)).natAbs < 2 ^ (23 + excessBits n d) := by
      simpa using pow_dvd_valueOf_or_lt x (excessBits n d)
    obtain ⟨hle, htie⟩ := roundedMag_nearest hd hx
    rw [hvalue, natAbs_sub_signed, natAbs_sub_signed, signed_signed]
    refine ⟨hle, fun h => (htie h).imp (fun hy => ?_) heven⟩
    rw [← hy, signed_signed]

/-- A whole number of units whose place divides it needs no rounding. -/
theorem roundedMag_of_dvd {n : Nat} (h : 2 ^ excessBits n 1 ∣ n) : roundedMag n 1 = n := by
  rw [roundedMag, significand, one_mul, divNearestEven_of_dvd (by positivity) h, Nat.div_mul_cancel h]

end Sys2Proof.Machine
end

section
/-! The arithmetic laws of spec/40_numerics.md: the integer map, sums, products, quotients and conversions as exact
results rounded once, and the special operands. -/

namespace Sys2Proof.Machine

/-! ### Rescaling (R142) -/

/-- Settles O43, from `rescale_toNat`. -/
theorem rescaleMapsIntoTheUsableRange : Obligations.RescaleMapsIntoTheUsableRange := by
  unfold Obligations.RescaleMapsIntoTheUsableRange
  intro floor p
  refine ⟨?zero, ?linear, ?full, ?small⟩
  case zero =>
    rintro rfl
    rfl
  case linear =>
    intro hp
    have hlinear := rescale_toNat (f := floor) hp
    exact ⟨hlinear, by omega⟩
  case full =>
    rintro rfl
    have hlinear := rescale_toNat (f := floor) (p := 255) (by decide)
    rw [show (255 : Byte).toNat = 255 from rfl, Nat.mul_div_cancel_left _ (by decide)] at hlinear
    apply BitVec.eq_of_toNat_eq
    rw [hlinear]
    exact Nat.add_sub_of_le (Nat.le_of_lt_succ floor.isLt)
  case small =>
    intro hp hlt
    apply BitVec.eq_of_toNat_eq
    rw [rescale_toNat hp, Nat.div_eq_of_lt hlt, Nat.add_zero]

/-! ### Finite operands (R147) -/

theorem fadd_of_finite {a b : F32} (ha : IsFinite a) (hb : IsFinite b) : fadd a b = faddFinite a b := by
  simp [fadd, ha.not_special, hb.not_special]

theorem fmul_of_finite {a b : F32} (ha : IsFinite a) (hb : IsFinite b) :
    fmul a b = roundTo (signOf a != signOf b) (magOf a * magOf b) (2 ^ 149) := by
  simp [fmul, ha.not_special, hb.not_special]

theorem fdiv_of_finite {a b : F32} (ha : IsFinite a) (hb : IsFinite b) (hz : isZero b = false) :
    fdiv a b = roundTo (signOf a != signOf b) (magOf a * 2 ^ 149) (magOf b) := by
  simp [fdiv, ha.not_special, hb.not_special, hz]

theorem faddFinite_of_zero {a b : F32} (h : valueOf a + valueOf b = 0) :
    faddFinite a b = zero (signOf a && signOf b) := by
  rw [faddFinite, if_pos h]

/-- A zero of either sign is the exact zero sum; any other sum goes through `roundTo` with its own sign. -/
theorem faddFinite_roundedOnce (a b : F32) : RoundedOnce (faddFinite a b) (valueOf a + valueOf b) 1 := by
  by_cases hv : valueOf a + valueOf b = 0
  · have hzero := roundTo_roundedOnce (signOf a && signOf b) (n := 0) Nat.one_pos
    rw [roundTo_zero] at hzero
    rw [faddFinite_of_zero hv, hv]
    simpa [signed] using hzero
  · have hround := roundTo_roundedOnce (decide (valueOf a + valueOf b < 0)) (n := (valueOf a + valueOf b).natAbs)
      Nat.one_pos
    rw [signed_natAbs] at hround
    rwa [faddFinite, if_neg hv]

theorem fadd_roundedOnce {a b : F32} (ha : IsFinite a) (hb : IsFinite b) :
    RoundedOnce (fadd a b) (valueOf a + valueOf b) 1 ∧
      (valueOf a + valueOf b = 0 → signOf a ≠ signOf b → fadd a b = 0x00000000) := by
  rw [fadd_of_finite ha hb]
  refine ⟨faddFinite_roundedOnce a b, fun hv hsign => ?_⟩
  rw [faddFinite_of_zero hv, Bool.eq_not_of_ne hsign, Bool.not_and_self]
  rfl

theorem IsFinite.fneg {a : F32} (h : IsFinite a) : IsFinite (fneg a) := by
  rwa [IsFinite, expOf_fneg]

/-- Settles O44: a difference is the sum with the second sign flipped. -/
theorem sumIsRoundedOnce : Obligations.SumIsRoundedOnce := by
  unfold Obligations.SumIsRoundedOnce
  intro a b ha hb
  obtain ⟨hsum, hzero⟩ := fadd_roundedOnce ha hb
  obtain ⟨hdiff, hzero'⟩ := fadd_roundedOnce ha hb.fneg
  rw [valueOf_fneg, ← sub_eq_add_neg] at hdiff hzero'
  refine ⟨hsum, hzero, hdiff, fun hv hsign => hzero' hv ?_⟩
  rw [signOf_fneg, hsign]
  exact (Bool.not_ne_self _).symm

/-- Settles O45: sign and magnitude of the product are those that `fmul` rounds. -/
theorem productIsRoundedOnce : Obligations.ProductIsRoundedOnce := by
  unfold Obligations.ProductIsRoundedOnce
  intro a b ha hb
  rw [fmul_of_finite ha hb, valueOf_eq_signed, valueOf_eq_signed, signed_mul_signed]
  exact ⟨by exact_mod_cast roundTo_roundedOnce _ (by positivity), signOf_roundTo ..⟩

/-- R146: the patterns of value 0 are the two zeros. -/
theorem isZero_iff_magOf (a : F32) : isZero a = true ↔ magOf a = 0 := by
  rw [isZero, magOf]
  split <;> simp_all

theorem magOf_eq_natAbs (a : F32) : magOf a = (valueOf a).natAbs := by
  rw [valueOf_eq_signed, natAbs_signed, Int.natAbs_natCast]

/-- The dividend, mirrored where the divisor is negative, has the quotient's sign (R147). -/
theorem signed_quotient {a b : F32} (hb : magOf b ≠ 0) :
    (if valueOf b < 0 then -valueOf a else valueOf a) = signed (signOf a != signOf b) (magOf a) := by
  have hneg := decide_signed_neg (signOf b) hb
  rw [← valueOf_eq_signed] at hneg
  rw [valueOf_eq_signed a]
  cases hs : signOf b
  · rw [hs, decide_eq_false_iff_not] at hneg
    rw [if_neg hneg, Bool.bne_false]
  · rw [hs, decide_eq_true_iff] at hneg
    rw [if_pos hneg, Bool.bne_true]
    cases signOf a <;> simp [signed]

/-- Settles O46: a non-zero divisor has a non-zero magnitude, which is the denominator that `fdiv` rounds over. -/
theorem quotientIsRoundedOnce : Obligations.QuotientIsRoundedOnce := by
  unfold Obligations.QuotientIsRoundedOnce
  intro a b ha hb hne
  have hmag : magOf b ≠ 0 := by rwa [magOf_eq_natAbs, Int.natAbs_ne_zero]
  have hz : isZero b = false := by rwa [← Bool.not_eq_true, isZero_iff_magOf]
  rw [fdiv_of_finite ha hb hz, signed_quotient hmag, ← magOf_eq_natAbs, signed_mul]
  exact ⟨by exact_mod_cast roundTo_roundedOnce _ (Nat.pos_of_ne_zero hmag), signOf_roundTo ..⟩

/-! ### Integers to binary32 (R149) -/

theorem i2f_roundedOnce (n : Int) : RoundedOnce (i2f n) (n * 2 ^ 149) 1 := by
  have hround := roundTo_roundedOnce (decide (n < 0)) (n := n.natAbs * 2 ^ 149) Nat.one_pos
  rw [Nat.cast_mul, ← signed_mul, signed_natAbs] at hround
  exact_mod_cast hround

/-- An integer of at most 24 bits has no bits below its place; 2^24 itself has one bit only. -/
theorem pow_excessBits_dvd {m : Nat} (hm : m ≤ 2 ^ 24) : 2 ^ excessBits (m * 2 ^ 149) 1 ∣ m * 2 ^ 149 := by
  obtain rfl | hlt := hm.eq_or_lt
  · decide
  · have hlog : Nat.log2 (m * 2 ^ 149) < 173 := by
      by_cases hz : m = 0
      · simp [hz]
      · rw [Nat.log2_lt (by positivity)]
        omega
    have hplace : excessBits (m * 2 ^ 149) 1 ≤ 149 := by
      rw [excessBits, Nat.div_one]
      omega
    exact Dvd.dvd.mul_left (pow_dvd_pow 2 hplace) m

theorem i2f_exact {n : Int} (hn : n.natAbs ≤ 2 ^ 24) : IsFinite (i2f n) ∧ valueOf (i2f n) = n * 2 ^ 149 := by
  have hlt : n.natAbs * 2 ^ 149 < 1 * overflowBound := by
    rw [overflowBound]
    omega
  obtain ⟨hfinite, hvalue, -⟩ := roundTo_of_lt (decide (n < 0)) Nat.one_pos hlt
  rw [roundedMag_of_dvd (pow_excessBits_dvd hn), Nat.cast_mul, ← signed_mul, signed_natAbs] at hvalue
  exact ⟨hfinite, by exact_mod_cast hvalue⟩

/-- Settles O47: the value of `n` is `n * 2^149` units. -/
theorem integerConversionIsRoundedOnce : Obligations.IntegerConversionIsRoundedOnce := by
  unfold Obligations.IntegerConversionIsRoundedOnce
  exact ⟨fun n _ => i2f_roundedOnce n, fun _ hn => i2f_exact hn, rfl⟩

/-! ### Binary32 to integers (R150) -/

/-- The magnitude's nearest integer, a half rounding up. -/
theorem roundAway_eq_signed (a : F32) :
    roundAway a = signed (signOf a) ((2 * magOf a + 2 ^ 149) / 2 ^ 150 : Nat) := rfl

/-- R150: within half a unit, and past the value where it is half a unit away. -/
theorem roundAway_nearest (a : F32) :
    2 * (roundAway a * 2 ^ 149 - valueOf a).natAbs ≤ 2 ^ 149 ∧
      (2 * (roundAway a * 2 ^ 149 - valueOf a).natAbs = 2 ^ 149 →
        (valueOf a).natAbs < (roundAway a * 2 ^ 149).natAbs) := by
  rw [roundAway_eq_signed, valueOf_eq_signed, natAbs_sub_signed, signed_signed, Int.natAbs_mul, natAbs_signed,
    natAbs_signed, Int.natAbs_natCast, Int.natAbs_natCast, show (2 ^ 149 : Int).natAbs = 2 ^ 149 from rfl]
  omega

theorem roundSat_of_finite {a : F32} (h : IsFinite a) (lo hi : Int) :
    roundSat a lo hi = min (max (roundAway a) lo) hi := by
  simp [roundSat, h.not_special]

theorem isNaN_of_isInf {a : F32} (h : isInf a = true) : isNaN a = false := by
  simp_all [isInf, isNaN]

theorem roundSat_of_isInf {a : F32} (h : isInf a = true) (lo hi : Int) :
    roundSat a lo hi = if signOf a then lo else hi := by
  simp [roundSat, h, isNaN_of_isInf h]

/-- A range that holds 0, the result for a NaN, holds every result. -/
theorem roundSat_mem {a : F32} {lo hi : Int} (hlo : lo ≤ 0) (hhi : 0 ≤ hi) :
    lo ≤ roundSat a lo hi ∧ roundSat a lo hi ≤ hi := by
  unfold roundSat
  split_ifs <;> omega

/-- Settles O49: the integer is `roundAway`'s, and both conversions have ranges that their types hold. -/
theorem conversionRoundsAwayAndSaturates : Obligations.ConversionRoundsAwayAndSaturates := by
  unfold Obligations.ConversionRoundsAwayAndSaturates
  intro a lo hi
  refine ⟨?nan, ?posInf, ?negInf, ?finite, ?byte, ?half⟩
  case nan =>
    intro h
    rw [roundSat, if_pos h]
  case posInf =>
    intro h hs
    simp [roundSat_of_isInf h, hs]
  case negInf =>
    intro h hs
    simp [roundSat_of_isInf h, hs]
  case finite =>
    exact fun h => ⟨roundAway a, roundSat_of_finite h lo hi, roundAway_nearest a⟩
  case byte =>
    obtain ⟨hlo, hhi⟩ := roundSat_mem (a := a) (lo := 0) (hi := 255) (by decide) (by decide)
    rw [f2u8, BitVec.toNat_ofInt]
    omega
  case half =>
    obtain ⟨hlo, hhi⟩ := roundSat_mem (a := a) (lo := -32768) (hi := 32767) (by decide) (by decide)
    rw [f2i16, BitVec.toInt_ofInt]
    exact Int.bmod_eq_of_le (by omega) (by omega)

/-! ### Special operands (R147) -/

theorem isZero_of_isInf {a : F32} (h : isInf a = true) : isZero a = false := by
  simp_all [isInf, isZero]

theorem isFinite_of_isZero {a : F32} (h : isZero a = true) : IsFinite a := by
  simp_all [isZero]

theorem fadd_of_isNaN {a b : F32} (h : isNaN a = true ∨ isNaN b = true) : fadd a b = canonicalNaN := by
  rw [fadd, if_pos (by simpa using h)]

theorem fmul_of_isNaN {a b : F32} (h : isNaN a = true ∨ isNaN b = true) : fmul a b = canonicalNaN := by
  rw [fmul, if_pos (by simpa using h)]

theorem fdiv_of_isNaN {a b : F32} (h : isNaN a = true ∨ isNaN b = true) : fdiv a b = canonicalNaN := by
  rw [fdiv, if_pos (by simpa using h)]

theorem fadd_of_isInf {a b : F32} (ha : isInf a = true) (hb : isInf b = true) :
    fadd a b = if signOf a = signOf b then a else canonicalNaN := by
  by_cases h : signOf a = signOf b <;> simp [fadd, isNaN_of_isInf, ha, hb, h]

theorem fadd_isInf_finite {a b : F32} (ha : isInf a = true) (hb : IsFinite b) : fadd a b = a := by
  simp [fadd, isNaN_of_isInf, ha, hb.not_special]

theorem fadd_finite_isInf {a b : F32} (ha : IsFinite a) (hb : isInf b = true) : fadd a b = b := by
  simp [fadd, isNaN_of_isInf, hb, ha.not_special]

/-- Settles O48, by the classes of the two operands; a difference is the sum with the second sign flipped. -/
theorem specialOperandsFollowIeee : Obligations.SpecialOperandsFollowIeee := by
  unfold Obligations.SpecialOperandsFollowIeee
  intro a b
  refine ⟨?nan, ?infInf, ?infFinite, ?finiteInf, ?finiteZero⟩
  case nan =>
    intro h
    have hneg : isNaN a = true ∨ isNaN (fneg b) = true := by rwa [isNaN_fneg]
    exact ⟨fadd_of_isNaN h, fadd_of_isNaN hneg, fmul_of_isNaN h, fdiv_of_isNaN h⟩
  case infInf =>
    intro ha hb
    have hneg : isInf (fneg b) = true := by rwa [isInf_fneg]
    rw [fsub, fadd_of_isInf ha hb, fadd_of_isInf ha hneg, signOf_fneg]
    refine ⟨by simp [fdiv, isNaN_of_isInf, ha, hb, canonicalNaN], fun hs => ?_, fun hs => ?_,
      by simp [fmul, isNaN_of_isInf, isZero_of_isInf, ha, hb]⟩
    · simp [hs, canonicalNaN]
    · simp [hs, canonicalNaN]
  case infFinite =>
    intro ha hb
    exact ⟨fadd_isInf_finite ha hb, fadd_isInf_finite ha hb.fneg,
      by simp [fdiv, isNaN_of_isInf, ha, hb.not_special],
      by simp [fmul, isNaN_of_isInf, isZero_of_isInf, ha, hb.not_special, canonicalNaN]⟩
  case finiteInf =>
    intro ha hb
    have hneg : isInf (fneg b) = true := by rwa [isInf_fneg]
    exact ⟨fadd_finite_isInf ha hb, fadd_finite_isInf ha hneg,
      by simp [fdiv, isNaN_of_isInf, hb, ha.not_special],
      by simp [fmul, isNaN_of_isInf, isZero_of_isInf, hb, ha.not_special, canonicalNaN]⟩
  case finiteZero =>
    intro ha hb
    simp [fdiv, ha.not_special, (isFinite_of_isZero hb).not_special, hb, canonicalNaN]

end Sys2Proof.Machine
end

section
/-! The transport events (R171 to R175, R180, R185): what each of them does on a running core, by the phase of the
transaction and the register at the active address. -/

namespace Sys2Proof.Machine

/-! ### The address byte (R171, R172) -/

/-- Settles O6. -/
theorem startWriteOpensTransaction : Obligations.StartWriteOpensTransaction := by
  unfold Obligations.StartWriteOpensTransaction
  exact fun s hrun => execStartW_running hrun

theorem execRx_address {s : State} (b : Byte) (hrun : s.run = .running) (hp : s.bus.rxPhase = .addr) :
    execRx b s = .next (s.rxAddress b) := by
  simp only [execRx_running b hrun, State.receive, hp]

/-- Only the two commands without payload have work armed by their address byte alone (R172). -/
theorem State.selectReg_of_payload (s : State) (a : Byte) {r : Reg} (hload : r ≠ .settingsLoad)
    (hreset : r ≠ .softReset) : s.selectReg a r = (s.select a).setPhase r.phaseAfterSelect := by
  cases r with
  | settingsLoad => exact absurd rfl hload
  | softReset => exact absurd rfl hreset
  | _ => rfl

theorem Reg.phaseAfterSelect_of_payload {r : Reg} (hload : r ≠ .settingsLoad) (hreset : r ≠ .softReset) :
    r.phaseAfterSelect = if r.access = .readOnly then .discard else .data := by
  cases r with
  | settingsLoad => exact absurd rfl hload
  | softReset => exact absurd rfl hreset
  | motor m r => cases r <;> rfl
  | _ => rfl

/-- A register other than the two commands without payload: selected, its phase given by its access (R172). -/
theorem State.rxAddress_of_payload (s : State) {b : Byte} {r : Reg} (hr : regAt b = some r) (hload : b ≠ 0x32)
    (hreset : b ≠ 0x33) :
    s.rxAddress b = (s.select b).setPhase (if r.access = .readOnly then .discard else .data) := by
  have haddr : r.addr = b := addr_of_regAt hr
  have hload' : r ≠ .settingsLoad := fun h => hload (by rw [← haddr, h]; rfl)
  have hreset' : r ≠ .softReset := fun h => hreset (by rw [← haddr, h]; rfl)
  rw [s.rxAddress_of_mapped hr, s.selectReg_of_payload b hload' hreset',
    Reg.phaseAfterSelect_of_payload hload' hreset']

/-- Settles O7, by the register at the address. -/
theorem addressByteSelectsRegister : Obligations.AddressByteSelectsRegister := by
  unfold Obligations.AddressByteSelectsRegister
  intro s b hrun hp
  have hrx : exec (.rx b) s = .next (s.rxAddress b) := execRx_address b hrun hp
  rw [hrx]
  refine ⟨?unmapped, ?load, ?reset, fun r hr hload hreset => ⟨?writable, ?readOnly⟩⟩
  case unmapped =>
    intro hb
    rw [s.rxAddress_of_unmapped hb]
    rfl
  case load =>
    rintro rfl
    rfl
  case reset =>
    rintro rfl
    rfl
  case writable =>
    intro haccess
    rw [s.rxAddress_of_payload hr hload hreset, if_neg haccess]
    rfl
  case readOnly =>
    intro haccess
    rw [s.rxAddress_of_payload hr hload hreset, if_pos haccess]
    rfl

/-! ### The value bytes (R173 to R175) -/

/-- A pending advance that cannot be made drops the rest of the transaction (R173). -/
theorem State.rxData_without_advance {s : State} (b : Byte) (hadv : s.bus.advPending = true)
    (h : ¬(dataWritable s.bus.activeAddr = true ∧ dataWritable (s.bus.activeAddr + 1) = true)) :
    s.rxData b = .next (({ s with bus := { s.bus with advPending := false } }).setPhase .discard) := by
  have hw : ¬(dataWritable s.bus.activeAddr && dataWritable (s.bus.activeAddr + 1)) = true := by
    rwa [Bool.and_eq_true]
  rw [State.rxData, if_pos hadv]
  exact if_neg hw

/-- Settles O8. -/
theorem nextByteAdvancesActiveAddress : Obligations.NextByteAdvancesActiveAddress := by
  unfold Obligations.NextByteAdvancesActiveAddress
  intro s b hrun hp hadv
  refine ⟨fun hw hn => execRx_advance b hrun hp hadv hw hn, fun h => ?_⟩
  calc exec (.rx b) s
    _ = s.receive b := execRx_running b hrun
    _ = s.rxData b := State.receive_data b hp
    _ = _ := State.rxData_without_advance b hadv h

theorem receiveAll_singleton (b : Byte) (s : State) : receiveAll [b] s = execRx b s := by
  rw [receiveAll_cons]
  cases execRx b s <;> rfl

/-- Settles O9: a byte that leaves the field incomplete is a partial field of one byte. -/
theorem valueByteIsStagedOrCommits : Obligations.ValueByteIsStagedOrCommits := by
  unfold Obligations.ValueByteIsStagedOrCommits
  intro s b r hrun hp hadv hr
  refine ⟨fun hroom => ?staged, fun hlast s1 k hwrite hk => ?committed⟩
  case staged =>
    have hpartial := receiveAll_partial [b] hrun hp hadv hr hroom
    rwa [receiveAll_singleton] at hpartial
  case committed =>
    have hcommit := State.receive_last hp hadv hr hlast hwrite
    rw [← execRx_running b hrun] at hcommit
    simp only [State.markUpdated, hk] at hcommit
    exact hcommit

/-- Settles O10. -/
theorem bytesOutsideAFieldAreDropped : Obligations.BytesOutsideAFieldAreDropped := by
  unfold Obligations.BytesOutsideAFieldAreDropped
  exact fun s b hrun hphase => (execRx_running b hrun).trans (s.receive_dropped b hphase)

/-! ### The end of a transaction (R180) -/

@[simp] theorem State.updateIf_bus (s : State) (u : BitVec 16) (i : MotorId) : (s.updateIf u i).bus = s.bus := by
  unfold State.updateIf
  split
  · exact s.update_bus i
  · rfl

@[simp] theorem State.updateIf_run (s : State) (u : BitVec 16) (i : MotorId) : (s.updateIf u i).run = s.run := by
  unfold State.updateIf
  split
  · exact s.update_run i
  · rfl

/-- Settles O11: the recomputations leave the save selector alone, so the save uses the one the transaction left. -/
theorem endWriteRunsPendingWorkInOrder : Obligations.EndWriteRunsPendingWorkInOrder := by
  unfold Obligations.EndWriteRunsPendingWorkInOrder
  intro s hrun
  have hselector : ((s.closeTransaction.updateIf s.bus.updated .m1).updateIf s.bus.updated .m2).bus.saveSelector =
      s.bus.saveSelector := by
    simp only [State.updateIf_bus, State.closeTransaction_bus_saveSelector]
  refine (execEndW_running hrun).trans ?_
  simp only [State.endWrite, State.processUpdated, hselector]
  rfl

/-! ### The read request (R185) -/

theorem execReq_of_memRead {s : State} {block : ReadBlock} (hrun : s.run = .running)
    (h : s.memRead s.bus.activeAddr = some block) : execReq s = .next { s with readBlock := some block } := by
  simp only [execReq_running hrun, State.request, h]

/-- A write-only register reads as zeros (R76, R249). -/
theorem State.readReg_of_writeOnly (s : State) {r : Reg} (h : r.access = .writeOnly) : s.readReg r = blockZero := by
  cases r with
  | motor m r => cases r <;> cases h
  | settingsSave => rfl
  | settingsLoad => rfl
  | softReset => rfl
  | _ => cases h

/-- Settles O14. -/
theorem requestAnswersTheActiveRegister : Obligations.RequestAnswersTheActiveRegister := by
  unfold Obligations.RequestAnswersTheActiveRegister
  intro s
  refine ⟨fun hrun hmapped => ?mapped, fun hrun haddr => ?writeOnly, fun hrun => ?halted⟩
  case mapped =>
    obtain ⟨block, hblock⟩ := Option.isSome_iff_exists.mp ((s.memRead_isSome _).trans hmapped)
    exact ⟨block, hblock, execReq_of_memRead hrun hblock⟩
  case writeOnly =>
    have hreg : ∃ r, regAt s.bus.activeAddr = some r ∧ r.access = .writeOnly := by
      rcases haddr with h | h | h
      · exact ⟨.settingsSave, by rw [h]; rfl, rfl⟩
      · exact ⟨.settingsLoad, by rw [h]; rfl, rfl⟩
      · exact ⟨.softReset, by rw [h]; rfl, rfl⟩
    obtain ⟨r, hr, haccess⟩ := hreg
    refine execReq_of_memRead hrun ?_
    rw [State.memRead, hr, Option.map_some, s.readReg_of_writeOnly haccess]
    rfl
  case halted =>
    show execReq s = _
    simp only [execReq, hrun]

end Sys2Proof.Machine
end

section
/-! One field in a transaction of its own: cut short, nothing is applied (R181); complete, a read of its register
gives it back (R186). -/

namespace Sys2Proof.Machine

/-! ### An incomplete field (R75, R181) -/

theorem Reg.writable_of_access {r : Reg} (h : r.access ≠ .readOnly) : r.writable = true := by
  simpa [Reg.writable] using h

/-- The end of a transaction without pending work, on a running core (R180, R181). -/
theorem execEndW_of_updated_zero {s : State} (hrun : s.run = .running) (hupdated : s.bus.updated = 0) :
    execEndW s = .next (s.ended s.bus.activeAddr) := by
  rw [execEndW_running hrun, State.endWrite_of_updated_zero hupdated]

/-- Settles O12: the bytes are staged, and the end of the transaction drops them with no bit of `updated` set. -/
theorem partialFieldIsNotApplied : Obligations.PartialFieldIsNotApplied := by
  unfold Obligations.PartialFieldIsNotApplied
  intro s r bytes ⟨hrun, hupdated⟩ haccess hlen
  obtain ⟨hselect, hrunning, hphase, hadv, hstage, hreg⟩ :=
    State.startWrite_selectReg_receiving hrun (Reg.writable_of_access haccess) (Nat.zero_lt_of_lt hlen)
  have hstaged := receiveAll_partial bytes hrunning hphase hadv hreg (by simpa [hstage] using hlen)
  rw [runAll_lineW, writeTransaction_mapped bytes hrun, hselect, hstaged, andThen_next]
  exact execEndW_of_updated_zero hrun hupdated

/-! ### Reading back a complete field (R76, R106) -/

/-- A one-byte field whose decode routine masks the byte with `f`. -/
theorem blockR1_masked {bytes : List Byte} (f : Byte → Byte) (h : bytes.length = 1) :
    blockR1 (f (asByte (fromBE bytes))) = paddedBlock (bytes.map f) := by
  obtain ⟨v, rfl⟩ := List.length_eq_one_iff.mp h
  rw [asByte_fromBE]
  rfl

theorem blockR1_asByte {bytes : List Byte} (h : bytes.length = 1) :
    blockR1 (asByte (fromBE bytes)) = paddedBlock bytes := by
  obtain ⟨v, rfl⟩ := List.length_eq_one_iff.mp h
  exact blockR1_masked id rfl

theorem blockR2_asHalf {bytes : List Byte} (h : bytes.length = 2) :
    blockR2 (asHalf (fromBE bytes)) = paddedBlock bytes := by
  obtain ⟨b0, b1, rfl⟩ := List.length_eq_two.mp h
  exact congrArg paddedBlock (be2_fromBE b0 b1)

theorem blockR4_asPattern {bytes : List Byte} (h : bytes.length = 4) :
    blockR4 (asPattern (fromBE bytes)) = paddedBlock bytes := by
  match bytes, h with
  | [b0, b1, b2, b3], _ => exact congrArg paddedBlock (be4_fromBE b0 b1 b2 b3)

/-- The block of a motor register after its decode routine ran. -/
theorem MotorRegs.readBlock_write {m n : MotorRegs} {i : MotorId} {r : MotorReg} {bytes : List Byte}
    (h : m.write (fromBE bytes) r = some n) (hlen : bytes.length = r.width) :
    n.readBlock r = paddedBlock (storedField (.motor i r) bytes) := by
  cases r with
  | control =>
    cases h
    rw [MotorRegs.readBlock, MotorRegs.commitControl_control]
    exact blockR1_masked asControl hlen
  | power =>
    cases h
    exact blockR1_asByte hlen
  | targetRate =>
    cases h
    exact blockR2_asHalf hlen
  | _ => cases h

/-- The block of a register after its decode routine ran: the written bytes, less the reserved bits (R106, R117). -/
theorem State.readReg_writeReg {s t : State} {r : Reg} {bytes : List Byte} (h : s.writeReg (fromBE bytes) r = some t)
    (haccess : r.access = .readWrite) (hlen : bytes.length = r.width) :
    t.readReg r = paddedBlock (storedField r bytes) := by
  cases r with
  | motor i r =>
    obtain ⟨m, hm, rfl⟩ := Option.map_eq_some_iff.mp h
    rw [State.readReg, State.motor_setMotor_same]
    exact MotorRegs.readBlock_write hm hlen
  | pidKp => cases h; exact blockR4_asPattern hlen
  | pidKi => cases h; exact blockR4_asPattern hlen
  | pidKd => cases h; exact blockR4_asPattern hlen
  | rampingRate => cases h; exact blockR1_asByte hlen
  | minPower => cases h; exact blockR1_asByte hlen
  | busAddress => cases h; exact blockR1_masked asBusAddress hlen
  | settingsSave => cases haccess
  | settingsLoad => cases haccess
  | softReset => cases haccess

/-! ### What the end of the transaction leaves alone -/

/-- `UPDATE` recomputes read-only registers and the output; it writes no register that the bus can write (R320). -/
theorem MotorRegs.readBlock_update (m : MotorRegs) (f : Byte) {r : MotorReg} (h : r.access = .readWrite) :
    (m.update f).readBlock r = m.readBlock r := by
  cases r with
  | control => rw [MotorRegs.readBlock, MotorRegs.update_control, MotorRegs.readBlock]
  | power => rw [MotorRegs.readBlock, MotorRegs.update_setPower, MotorRegs.readBlock]
  | targetRate => rw [MotorRegs.readBlock, MotorRegs.update_targetRate, MotorRegs.readBlock]
  | _ => cases h

theorem State.readReg_update (s : State) (i : MotorId) {r : Reg} (h : r.access = .readWrite) :
    (s.update i).readReg r = s.readReg r := by
  cases r with
  | motor j r =>
    simp only [State.readReg, State.update]
    by_cases hij : j = i
    · subst hij
      rw [State.motor_mapMotor_same]
      exact MotorRegs.readBlock_update _ _ h
    · rw [State.motor_mapMotor_other _ _ hij]
  | settingsSave => cases h
  | settingsLoad => cases h
  | softReset => cases h
  | _ => simp only [State.readReg, State.update_tun]

theorem State.readReg_updateIf (s : State) (u : BitVec 16) (i : MotorId) {r : Reg} (h : r.access = .readWrite) :
    (s.updateIf u i).readReg r = s.readReg r := by
  unfold State.updateIf
  split
  · exact s.readReg_update i h
  · rfl

/-- The protocol registers are not read through the address map (R110). -/
theorem State.readReg_withBus (s : State) (b : BusRegs) (r : Reg) :
    ({ s with bus := b } : State).readReg r = s.readReg r := by
  cases r with
  | motor i r => cases i <;> rfl
  | _ => rfl

theorem State.readReg_markUpdated (s : State) (q r : Reg) : (s.markUpdated q).readReg r = s.readReg r := by
  rw [s.markUpdated_eq q, State.readReg_withBus]

/-- A register that can be read and written has a payload (R110). -/
theorem Reg.width_pos_of_readWrite {r : Reg} (h : r.access = .readWrite) : 0 < r.width := by
  cases r with
  | motor m r => cases r <;> exact Nat.zero_lt_succ _
  | settingsLoad => cases h
  | softReset => cases h
  | _ => decide

/-- The bits of a read-write register ask for no save, load or halt (R180). -/
theorem Reg.updatedBit_of_readWrite {r : Reg} (h : r.access = .readWrite) :
    r.updatedBit ≠ some 12 ∧ r.updatedBit ≠ some 13 ∧ r.updatedBit ≠ some 14 := by
  cases r with
  | motor m r => cases m <;> cases r <;> decide
  | settingsSave => cases h
  | settingsLoad => cases h
  | softReset => cases h
  | _ => decide

/-- Bits that ask for recomputations only: no save, load or halt (R180). -/
def NoCommandBits (u : BitVec 16) : Prop :=
  u.getLsbD 12 = false ∧ u.getLsbD 13 = false ∧ u.getLsbD 14 = false

/-- The bit of a read-write register, set on an empty bitmap. -/
theorem State.markUpdated_noCommandBits {s : State} {r : Reg} (h : s.bus.updated = 0) (hr : r.access = .readWrite) :
    NoCommandBits (s.markUpdated r).bus.updated := by
  have hother : ∀ k, r.updatedBit ≠ some k → (s.markUpdated r).bus.updated.getLsbD k = false := by
    intro k hk
    rw [s.markUpdated_getLsbD_of_ne hk, h]
    exact BitVec.getLsbD_zero
  obtain ⟨hsave, hload, hreset⟩ := Reg.updatedBit_of_readWrite hr
  exact ⟨hother 12 hsave, hother 13 hload, hother 14 hreset⟩

theorem State.endWrite_of_noCommandBits {s : State} (h : NoCommandBits s.bus.updated) :
    s.endWrite = (s.closeTransaction.updateIf s.bus.updated .m1).updateIf s.bus.updated .m2 := by
  obtain ⟨hsave, hload, hreset⟩ := h
  simp only [State.endWrite, State.processUpdated, hsave, hload, hreset, Bool.false_eq_true, if_false]

/-- After recomputations only, the core is ready for the next transaction. -/
theorem State.endWrite_ready {s : State} (hrun : s.run = .running) (h : NoCommandBits s.bus.updated) :
    s.endWrite.Ready := by
  rw [State.endWrite_of_noCommandBits h]
  refine ⟨?_, ?_⟩
  · simpa only [State.updateIf_run, State.closeTransaction_run] using hrun
  · simp only [State.updateIf_bus, State.closeTransaction_bus_updated]

theorem State.readReg_endWrite {s : State} {r : Reg} (h : NoCommandBits s.bus.updated) (hr : r.access = .readWrite) :
    s.endWrite.readReg r = s.readReg r := by
  rw [State.endWrite_of_noCommandBits h, State.readReg_updateIf _ _ _ hr, State.readReg_updateIf _ _ _ hr,
    State.closeTransaction, State.readReg_withBus]

theorem State.writeReg_run {s t : State} {v : Nat} {r : Reg} (h : s.writeReg v r = some t) : t.run = s.run := by
  obtain ⟨i, m, rfl, -⟩ | ⟨tun, rfl, -⟩ | rfl := State.writeReg_cases h
  · exact s.setMotor_run i m
  · rfl
  · rfl

/-- A read-write register after a transaction that carries its field: the core is ready again and reads the stored
field there. -/
theorem writeTransaction_readWrite {s : State} {r : Reg} {bytes : List Byte} (hs : s.Ready)
    (haccess : r.access = .readWrite) (hlen : bytes.length = r.width) :
    ∃ t : State, writeTransaction (r.addr :: bytes) s = .next t ∧ t.Ready ∧
      t.readReg r = paddedBlock (storedField r bytes) := by
  have hwritable : r.writable = true := Reg.writable_of_access (by simp [haccess])
  have hwidth : 0 < r.width := Reg.width_pos_of_readWrite haccess
  have hbytes : bytes ≠ [] := List.ne_nil_of_length_pos (hlen ▸ hwidth)
  obtain ⟨u, hu⟩ : ∃ u, ((s.startWrite.select r.addr).setPhase .data).writeReg (fromBE bytes) r = some u :=
    Option.isSome_iff_exists.mp (by simp [State.writeReg_isSome, hwritable, hwidth])
  have hrun : u.run = .running := (State.writeReg_run hu).trans hs.1
  obtain ⟨-, -, hupdated⟩ := State.writeReg_bus hu
  have hbits : NoCommandBits (u.markUpdated r).bus.updated :=
    State.markUpdated_noCommandBits (hupdated.trans hs.2) haccess
  refine ⟨_, writeTransaction_field hs hlen hbytes hu hrun, State.endWrite_ready ?_ hbits, ?_⟩
  · exact (u.markUpdated_run r).trans hrun
  · refine (State.readReg_endWrite hbits haccess).trans ?_
    rw [State.readReg_withBus, State.readReg_markUpdated]
    exact State.readReg_writeReg hu haccess hlen

/-- Settles O16. -/
theorem writeThenReadReturnsTheField : Obligations.WriteThenReadReturnsTheField := by
  unfold Obligations.WriteThenReadReturnsTheField
  intro s r bytes hs haccess hlen
  obtain ⟨t, hwrite, ht, hread⟩ := writeTransaction_readWrite hs haccess hlen
  have hload : r ≠ .settingsLoad := by rintro rfl; cases haccess
  have hreset : r ≠ .softReset := by rintro rfl; cases haccess
  refine ⟨{ t.ended r.addr with readBlock := some (t.readReg r) }, ?_, congrArg some hread⟩
  rw [runAll_append, runAll_lineW, hwrite, andThen_next, runAll_lineRd, readTransaction_ready ht hload hreset]

end Sys2Proof.Machine
end

section
/-! The register writes of spec/42_register_writes.md: what `COMMIT_CONTROL` does to a motor (R200), and the rows of
R201 to R211 on a ready core, each as the commit of its field with the recomputations the field asks for. -/

namespace Sys2Proof.Machine

/-! ### The control byte (R112, R200, R291) -/

/-- The mode table of R291, by the two bits it reads. -/
theorem modeOf_eq_ite (c : Byte) :
    modeOf c = if c.getLsbD 0 = true then if c.getLsbD 1 = true then .rate else .ramp else .direct := by
  unfold modeOf speedFlag modeFlag
  cases c.getLsbD 0 with
  | true => cases c.getLsbD 1 <;> rfl
  | false => rfl

/-- `COMMIT_CONTROL` as one record: the byte in both cases, the loop registers by the mode switch (R200). -/
theorem MotorRegs.commitControl_eq (m : MotorRegs) (v : Byte) :
    m.commitControl v =
      { m with
        control := v &&& 0x3F
        pidP := if modeOf v = m.mode then m.pidP else 0
        pidI := if modeOf v = m.mode then m.pidI else 0
        pidD := if modeOf v = m.mode then m.pidD else 0
        targetRate := if modeOf v = m.mode then m.targetRate else 0 } := by
  by_cases h : modeOf v = m.mode
  · rw [MotorRegs.commitControl_same h]
    simp only [h, if_true, asControl]
  · rw [MotorRegs.commitControl_switch h]
    simp only [h, if_false, asControl, MotorRegs.clearLoop]

/-- Settles O26: the flags are their bits by definition; the commit by cases on the mode switch. -/
theorem controlCommitClearsOnModeSwitch : Obligations.ControlCommitClearsOnModeSwitch := by
  unfold Obligations.ControlCommitClearsOnModeSwitch
  exact ⟨fun c => ⟨rfl, rfl, rfl, rfl, rfl, rfl, modeOf_eq_ite c⟩, fun _ => rfl, MotorRegs.commitControl_eq⟩

/-- `UPDATE` moves the commanded power in DIRECT mode only (R320). -/
theorem MotorRegs.update_currentPower (m : MotorRegs) (f : Byte) :
    (m.update f).currentPower = if m.mode = .direct then rescale f m.setPower else m.currentPower := by
  have hmode : (m.rescaled f).mode = m.mode := rfl
  unfold MotorRegs.update
  cases h : m.mode <;> simp [hmode, h]

/-! ### One field, then the recomputations it asks for (R174, R180) -/

/-- A transaction opened at the register with the address `a`, before its value bytes. -/
def State.opened (s : State) (a : Byte) : State :=
  (s.startWrite.select a).setPhase .data

/-- A decode routine works on a freshly opened transaction as it does outside one. -/
theorem State.writeReg_opened (s : State) (v : Nat) (r : Reg) (a : Byte) :
    (s.opened a).writeReg v r = (s.writeReg v r).map (·.opened a) := by
  cases r with
  | motor i r => cases i <;> cases r <;> rfl
  | _ => rfl

/-- Of the protocol registers of a committed field the end of the transaction keeps the address. -/
theorem State.closeTransaction_committed (s : State) (r : Reg) (a : Byte) :
    State.closeTransaction { (s.opened a).markUpdated r with
      bus := { ((s.opened a).markUpdated r).bus with stage := [], advPending := true } } = s.ended a := by
  unfold State.markUpdated
  split <;> rfl

/-- `UPDATE` neither reads nor changes the protocol registers. -/
theorem State.updateIf_ended (s : State) (u : BitVec 16) (i : MotorId) (a : Byte) :
    (s.ended a).updateIf u i = (s.updateIf u i).ended a := by
  unfold State.updateIf
  split
  · cases i <;> rfl
  · rfl

theorem State.updateIf_of_needsUpdate (s : State) {u : BitVec 16} {i : MotorId} (h : needsUpdate u i = true) :
    s.updateIf u i = s.update i :=
  if_pos h

theorem State.updateIf_of_not_needsUpdate (s : State) {u : BitVec 16} {i : MotorId} (h : needsUpdate u i = false) :
    s.updateIf u i = s :=
  if_neg (Bool.eq_false_iff.mp h)

/-- A transaction that carries the field of a register with `updated` bit `k`: the decode routine turns `s` into `t`,
then the bit's recomputations run. -/
theorem writeTransaction_commits {s t : State} {r : Reg} {k : Nat} {bytes : List Byte} (hs : s.Ready)
    (haccess : r.access = .readWrite) (hlen : bytes.length = r.width) (hk : r.updatedBit = some k)
    (ht : s.writeReg (fromBE bytes) r = some t) :
    writeTransaction (r.addr :: bytes) s =
      .next (((t.updateIf (markUpdated 0 k) .m1).updateIf (markUpdated 0 k) .m2).ended r.addr) := by
  have hbytes : bytes ≠ [] := List.ne_nil_of_length_pos (hlen ▸ Reg.width_pos_of_readWrite haccess)
  have hcommit : (s.opened r.addr).writeReg (fromBE bytes) r = some (t.opened r.addr) := by
    rw [State.writeReg_opened, ht, Option.map_some]
  have hrun' : (t.opened r.addr).run = .running := (State.writeReg_run ht).trans hs.1
  obtain ⟨-, -, hbus⟩ := State.writeReg_bus ht
  have hzero : (t.opened r.addr).bus.updated = 0 := hbus.trans hs.2
  have hmark : ((t.opened r.addr).markUpdated r).bus.updated = markUpdated 0 k := by
    simp only [State.markUpdated, hk, hzero]
  have hend := State.endWrite_of_noCommandBits (s := { (t.opened r.addr).markUpdated r with
    bus := { ((t.opened r.addr).markUpdated r).bus with stage := [], advPending := true } })
    (State.markUpdated_noCommandBits hzero haccess)
  rw [State.closeTransaction_committed, State.updateIf_ended, State.updateIf_ended, hmark] at hend
  rw [writeTransaction_field hs hlen hbytes hcommit hrun', hend]

/-- A field that no derived state depends on is stored, and nothing is recomputed (R180). -/
theorem writeTransaction_stores {s t : State} {r : Reg} {k : Nat} {bytes : List Byte} (hs : s.Ready)
    (haccess : r.access = .readWrite) (hlen : bytes.length = r.width) (hk : r.updatedBit = some k)
    (hquiet : ∀ i, needsUpdate (markUpdated 0 k) i = false) (ht : s.writeReg (fromBE bytes) r = some t) :
    writeTransaction (r.addr :: bytes) s = .next (t.ended r.addr) := by
  rw [writeTransaction_commits hs haccess hlen hk ht, State.updateIf_of_not_needsUpdate _ (hquiet .m1),
    State.updateIf_of_not_needsUpdate _ (hquiet .m2)]

/-- A field of one motor whose bit asks for that motor's `UPDATE` only (R180). -/
theorem writeTransaction_updatesMotor {s : State} {i : MotorId} {r : MotorReg} {m : MotorRegs} {k : Nat}
    {bytes : List Byte} (hs : s.Ready) (haccess : r.access = .readWrite) (hlen : bytes.length = r.width)
    (hk : (Reg.motor i r).updatedBit = some k) (hi : needsUpdate (markUpdated 0 k) i = true)
    (hother : needsUpdate (markUpdated 0 k) i.other = false) (hm : (s.motor i).write (fromBE bytes) r = some m) :
    writeTransaction (motorAddr i r :: bytes) s =
      .next ((s.setMotor i (m.update s.tun.minPower)).ended (motorAddr i r)) := by
  have ht : s.writeReg (fromBE bytes) (.motor i r) = some (s.setMotor i m) := by
    rw [State.writeReg, hm, Option.map_some]
  rw [motorAddr, writeTransaction_commits (r := .motor i r) hs haccess hlen hk ht]
  cases i with
  | m1 => rw [State.updateIf_of_needsUpdate _ hi, State.updateIf_of_not_needsUpdate (i := .m2) _ hother]; rfl
  | m2 => rw [State.updateIf_of_not_needsUpdate (i := .m1) _ hother, State.updateIf_of_needsUpdate _ hi]; rfl

/-! ### The rows of a motor (R201 to R206) -/

/-- The bits of control and power ask for the recomputation of their own motor (R180). -/
theorem needsUpdate_controlBit (i : MotorId) :
    needsUpdate (markUpdated 0 (controlBit i)) i = true ∧
      needsUpdate (markUpdated 0 (controlBit i)) i.other = false := by
  cases i <;> decide

theorem needsUpdate_powerBit (i : MotorId) :
    needsUpdate (markUpdated 0 (controlBit i + 1)) i = true ∧
      needsUpdate (markUpdated 0 (controlBit i + 1)) i.other = false := by
  cases i <;> decide

/-- The bit of the target rate asks for nothing (R180). -/
theorem needsUpdate_targetRateBit (i j : MotorId) : needsUpdate (markUpdated 0 (controlBit i + 2)) j = false := by
  cases i <;> cases j <;> decide

theorem writeTransaction_control {s : State} (i : MotorId) (v : Byte) (hs : s.Ready) :
    writeTransaction [motorAddr i .control, v] s =
      .next ((s.setMotor i (((s.motor i).commitControl v).update s.tun.minPower)).ended (motorAddr i .control)) := by
  obtain ⟨hk, -, -⟩ := Reg.updatedBit_motor i
  obtain ⟨hi, hother⟩ := needsUpdate_controlBit i
  have hm : (s.motor i).write (fromBE [v]) .control = some ((s.motor i).commitControl v) := by
    rw [MotorRegs.write, asByte_fromBE]
  exact writeTransaction_updatesMotor hs rfl rfl hk hi hother hm

theorem writeTransaction_power {s : State} (i : MotorId) (v : Byte) (hs : s.Ready) :
    writeTransaction [motorAddr i .power, v] s =
      .next ((s.setMotor i (MotorRegs.update { s.motor i with setPower := v } s.tun.minPower)).ended
        (motorAddr i .power)) := by
  obtain ⟨-, hk, -⟩ := Reg.updatedBit_motor i
  obtain ⟨hi, hother⟩ := needsUpdate_powerBit i
  have hm : (s.motor i).write (fromBE [v]) .power = some { s.motor i with setPower := v } := by
    rw [MotorRegs.write, asByte_fromBE]
  exact writeTransaction_updatesMotor hs rfl rfl hk hi hother hm

theorem writeTransaction_targetRate {s : State} (i : MotorId) (v : Half) (hs : s.Ready) :
    writeTransaction (motorAddr i .targetRate :: be2 v) s =
      .next ((s.setMotor i { s.motor i with targetRate := v }).ended (motorAddr i .targetRate)) := by
  obtain ⟨-, -, hk⟩ := Reg.updatedBit_motor i
  have ht : s.writeReg (fromBE (be2 v)) (.motor i .targetRate) =
      some (s.setMotor i { s.motor i with targetRate := v }) := by
    rw [State.writeReg, MotorRegs.write, asHalf_fromBE, Option.map_some]
  exact writeTransaction_stores hs rfl (be2_length v) hk (needsUpdate_targetRateBit i) ht

/-- Settles O17. -/
theorem controlWriteCommitsAndUpdates : Obligations.ControlWriteCommitsAndUpdates := by
  unfold Obligations.ControlWriteCommitsAndUpdates
  exact fun s v hs => ⟨writeTransaction_control .m1 v hs, writeTransaction_control .m2 v hs⟩

/-- Settles O18: the rows, then what `UPDATE` makes of the new request. -/
theorem powerWriteSetsRequestAndUpdates : Obligations.PowerWriteSetsRequestAndUpdates := by
  unfold Obligations.PowerWriteSetsRequestAndUpdates
  refine fun s v hs => ⟨⟨writeTransaction_power .m1 v hs, writeTransaction_power .m2 v hs⟩, fun m => ⟨?_, ?_, ?_⟩⟩
  · exact MotorRegs.update_setPower _ _
  · exact MotorRegs.update_scaledPower _ _
  · exact MotorRegs.update_currentPower _ _

/-- Settles O19. -/
theorem targetRateWriteStoresOnly : Obligations.TargetRateWriteStoresOnly := by
  unfold Obligations.TargetRateWriteStoresOnly
  exact fun s v hs => ⟨writeTransaction_targetRate .m1 v hs, writeTransaction_targetRate .m2 v hs⟩

/-! ### The rows of the tunables (R207 to R211) -/

/-- The bits of the gains and of the ramping rate ask for nothing (R180). -/
theorem needsUpdate_tunableBit (i : MotorId) : ∀ k ∈ [6, 7, 8, 9], needsUpdate (markUpdated 0 k) i = false := by
  cases i <;> decide

/-- Settles O20: four bytes give back the pattern they were cut from. -/
theorem gainWriteStoresPatternUnchanged : Obligations.GainWriteStoresPatternUnchanged := by
  unfold Obligations.GainWriteStoresPatternUnchanged
  intro s f hs
  have hquiet (k : Nat) (hk : k ∈ [6, 7, 8, 9]) (i : MotorId) := needsUpdate_tunableBit i k hk
  refine ⟨writeTransaction_stores (r := .pidKp) hs rfl (be4_length f) rfl (hquiet 6 (by decide)) ?_,
    writeTransaction_stores (r := .pidKi) hs rfl (be4_length f) rfl (hquiet 7 (by decide)) ?_,
    writeTransaction_stores (r := .pidKd) hs rfl (be4_length f) rfl (hquiet 8 (by decide)) ?_⟩
  all_goals rw [State.writeReg, asPattern_fromBE]

/-- The bit of the minimum power asks for the recomputation of both motors (R180). -/
theorem needsUpdate_minPowerBit (i : MotorId) : needsUpdate (markUpdated 0 10) i = true := by
  cases i <;> decide

/-- Settles O21. -/
theorem rampingRateAndMinPowerWrites : Obligations.RampingRateAndMinPowerWrites := by
  unfold Obligations.RampingRateAndMinPowerWrites
  refine fun s v hs => ⟨?_, ?_⟩
  · have ht : s.writeReg (fromBE [v]) .rampingRate = some { s with tun := { s.tun with rampingRate := v } } := by
      rw [State.writeReg, asByte_fromBE]
    exact writeTransaction_stores (r := .rampingRate) hs rfl rfl rfl (fun i => needsUpdate_tunableBit i 9 (by decide)) ht
  · have ht : s.writeReg (fromBE [v]) .minPower = some { s with tun := { s.tun with minPower := v } } := by
      rw [State.writeReg, asByte_fromBE]
    have hwrite := writeTransaction_commits (r := .minPower) hs rfl rfl rfl ht
    rw [State.updateIf_of_needsUpdate _ (needsUpdate_minPowerBit .m1),
      State.updateIf_of_needsUpdate _ (needsUpdate_minPowerBit .m2)] at hwrite
    exact hwrite

end Sys2Proof.Machine
end

section
/-! The register reads of spec/43_register_reads.md on a ready core: every row of the class RD answers the block of the
register at its address (R220), and the eleven rows of a motor are one family in the motor and the register. -/

namespace Sys2Proof.Machine

/-- A row of the class RD at a readable register's address, on a ready core: the register's block, and the protocol
registers of the selection (R220). -/
theorem exec_read_ready {s : State} {i : Instr} {r : Reg} (hs : s.Ready) (hclass : i.opClass = .read)
    (haddr : i.matchByte = r.addr) (hreadable : r.readable = true) :
    exec i s = .next { s.ended r.addr with readBlock := some (s.readReg r) } := by
  have hload : r ≠ .settingsLoad := by rintro rfl; cases hreadable
  have hreset : r ≠ .softReset := by rintro rfl; cases hreadable
  rw [exec_of_read hclass, haddr, readTransaction_ready hs hload hreset]

/-! ### The rows of a motor (R221 to R242) -/

/-- The row that reads a register of a motor. -/
def motorRead : MotorId → MotorReg → Instr
  | .m1, .control => .rdM1Control
  | .m1, .power => .rdM1Power
  | .m1, .targetRate => .rdM1TargetRate
  | .m1, .currentPower => .rdM1CurrentPower
  | .m1, .scaledPower => .rdM1ScaledPower
  | .m1, .currentRate => .rdM1CurrentRate
  | .m1, .encoder => .rdM1Encoder
  | .m1, .current => .rdM1Current
  | .m1, .pidP => .rdM1PidP
  | .m1, .pidI => .rdM1PidI
  | .m1, .pidD => .rdM1PidD
  | .m2, .control => .rdM2Control
  | .m2, .power => .rdM2Power
  | .m2, .targetRate => .rdM2TargetRate
  | .m2, .currentPower => .rdM2CurrentPower
  | .m2, .scaledPower => .rdM2ScaledPower
  | .m2, .currentRate => .rdM2CurrentRate
  | .m2, .encoder => .rdM2Encoder
  | .m2, .current => .rdM2Current
  | .m2, .pidP => .rdM2PidP
  | .m2, .pidI => .rdM2PidI
  | .m2, .pidD => .rdM2PidD

theorem motorRead_opClass (i : MotorId) (r : MotorReg) : (motorRead i r).opClass = .read := by
  cases i <;> cases r <;> rfl

theorem motorRead_matchByte (i : MotorId) (r : MotorReg) : (motorRead i r).matchByte = motorAddr i r := by
  cases i <;> cases r <;> rfl

/-- No register of a motor is write-only (R110). -/
theorem Reg.readable_motor (i : MotorId) (r : MotorReg) : (Reg.motor i r).readable = true := by
  cases r <;> rfl

/-- The reads of a motor on a ready core, for every register of it (R220). -/
theorem exec_motorRead_ready {s : State} (hs : s.Ready) (i : MotorId) (r : MotorReg) :
    exec (motorRead i r) s =
      .next { s.ended (motorAddr i r) with readBlock := some ((s.motor i).readBlock r) } :=
  exec_read_ready (r := .motor i r) hs (motorRead_opClass i r) (motorRead_matchByte i r) (Reg.readable_motor i r)

/-- Settles O27. -/
theorem motorOneReadsAnswerTheirRegisters : Obligations.MotorOneReadsAnswerTheirRegisters := by
  unfold Obligations.MotorOneReadsAnswerTheirRegisters
  intro s hs
  have hread := exec_motorRead_ready hs .m1
  exact ⟨hread .control, hread .power, hread .targetRate, hread .currentPower, hread .scaledPower,
    hread .currentRate, hread .encoder, hread .current, hread .pidP, hread .pidI, hread .pidD⟩

/-- Settles O28. -/
theorem motorTwoReadsAnswerTheirRegisters : Obligations.MotorTwoReadsAnswerTheirRegisters := by
  unfold Obligations.MotorTwoReadsAnswerTheirRegisters
  intro s hs
  have hread := exec_motorRead_ready hs .m2
  exact ⟨hread .control, hread .power, hread .targetRate, hread .currentPower, hread .scaledPower,
    hread .currentRate, hread .encoder, hread .current, hread .pidP, hread .pidI, hread .pidD⟩

/-! ### The rows of the tunables and of the bus address (R243 to R248) -/

/-- Settles O29. -/
theorem globalReadsAnswerTheirRegisters : Obligations.GlobalReadsAnswerTheirRegisters := by
  unfold Obligations.GlobalReadsAnswerTheirRegisters
  intro s hs
  exact ⟨exec_read_ready (r := .pidKp) hs rfl rfl rfl,
    exec_read_ready (r := .pidKi) hs rfl rfl rfl,
    exec_read_ready (r := .pidKd) hs rfl rfl rfl,
    exec_read_ready (r := .rampingRate) hs rfl rfl rfl,
    exec_read_ready (r := .minPower) hs rfl rfl rfl,
    exec_read_ready (r := .busAddress) hs rfl rfl rfl⟩

end Sys2Proof.Machine
end

section
/-! The command registers of spec/44_commands_settings.md on a ready core: the bus address, save, load and soft reset,
each as the work its `updated` bit asks for; then the two laws of R269 about save and load. -/

namespace Sys2Proof.Machine

/-! ### Transactions to the command registers (R172, R174, R180) -/

/-- A transaction that carries the field of any register with a payload: the decode routine turns `s` into `t`, then
the work of the register's `updated` bit runs. -/
theorem writeTransaction_payload {s t : State} {r : Reg} {k : Nat} {bytes : List Byte} (hs : s.Ready)
    (hlen : bytes.length = r.width) (hbytes : bytes ≠ []) (hk : r.updatedBit = some k)
    (ht : s.writeReg (fromBE bytes) r = some t) :
    writeTransaction (r.addr :: bytes) s = .next ((t.ended r.addr).processUpdated (markUpdated 0 k)) := by
  have hcommit : (s.opened r.addr).writeReg (fromBE bytes) r = some (t.opened r.addr) := by
    rw [State.writeReg_opened, ht, Option.map_some]
  have hrun : (t.opened r.addr).run = .running := (State.writeReg_run ht).trans hs.1
  obtain ⟨-, -, hupdated⟩ := State.writeReg_bus ht
  have hzero : (t.opened r.addr).bus.updated = 0 := hupdated.trans hs.2
  have hmark : ((t.opened r.addr).markUpdated r).bus.updated = markUpdated 0 k := by
    simp only [State.markUpdated, hk, hzero]
  rw [writeTransaction_field hs hlen hbytes hcommit hrun, State.endWrite, State.closeTransaction_committed, hmark]

/-- A transaction to a command without payload: its address byte alone sets the `updated` bit, whose work then runs. -/
theorem writeTransaction_command {s : State} {r : Reg} {k : Nat} (hs : s.Ready)
    (hr : r = .settingsLoad ∨ r = .softReset) (hk : r.updatedBit = some k) :
    writeTransaction [r.addr] s = .next ((s.ended r.addr).processUpdated (markUpdated 0 k)) := by
  obtain ⟨hrun, hzero⟩ := hs
  have hselect : s.startWrite.selectReg r.addr r = ((s.startWrite.select r.addr).setPhase .discard).markUpdated r := by
    rcases hr with rfl | rfl <;> rfl
  have hmark : (((s.startWrite.select r.addr).setPhase .discard).markUpdated r).bus.updated = markUpdated 0 k := by
    simp only [State.markUpdated, hk, State.setPhase_bus_updated, State.select_bus_updated,
      State.startWrite_bus_updated, hzero]
  have hclose : (((s.startWrite.select r.addr).setPhase .discard).markUpdated r).closeTransaction = s.ended r.addr := by
    rw [State.markUpdated_eq]
    rfl
  rw [writeTransaction_mapped [] hrun, hselect, receiveAll_nil, andThen_next,
    execEndW_running (by simpa using hrun), State.endWrite, hmark, hclose]

/-- Bit 12 asks for the save with the selector in force, and for nothing else (R180). -/
theorem State.processUpdated_saveBit (s : State) :
    s.processUpdated (Machine.markUpdated 0 12) = s.save s.bus.saveSelector := rfl

/-- Bit 13 asks for the load, and for nothing else (R180). -/
theorem State.processUpdated_loadBit (s : State) : s.processUpdated (Machine.markUpdated 0 13) = s.load := rfl

/-- Bit 14 asks for the halt, and for nothing else (R180). -/
theorem State.processUpdated_haltBit (s : State) :
    s.processUpdated (Machine.markUpdated 0 14) = { s with run := .halted } := rfl

/-! ### Bus address and soft reset (R260, R270) -/

/-- Dropping bit 7 is the remainder by 128. -/
theorem asBusAddress_eq_mod (v : Byte) : asBusAddress v = BitVec.ofNat 8 (v.toNat % 128) := by
  refine BitVec.eq_of_toNat_eq ?_
  have hand : (asBusAddress v).toNat = v.toNat % 128 := Nat.and_two_pow_sub_one_eq_mod v.toNat 7
  rw [hand, BitVec.toNat_ofNat]
  omega

/-- The bit of the bus address asks for no recomputation (R180). -/
theorem needsUpdate_busAddressBit (i : MotorId) : needsUpdate (markUpdated 0 11) i = false := by
  cases i <;> decide

/-- Settles O22: the decode routine drops bit 7, and the end of the transaction has no other work. -/
theorem busAddressWriteDropsBitSeven : Obligations.BusAddressWriteDropsBitSeven := by
  unfold Obligations.BusAddressWriteDropsBitSeven
  intro s v hs
  have ht : s.writeReg (fromBE [v]) .busAddress =
      some { s with tun := { s.tun with busAddress := BitVec.ofNat 8 (v.toNat % 128) } } := by
    rw [State.writeReg, asByte_fromBE, asBusAddress_eq_mod]
  exact writeTransaction_stores (r := .busAddress) hs rfl rfl rfl needsUpdate_busAddressBit ht

/-- Settles O25: the address byte alone sets bit 14, whose work is the halt. -/
theorem softResetHaltsAndHoldsEverything : Obligations.SoftResetHaltsAndHoldsEverything := by
  unfold Obligations.SoftResetHaltsAndHoldsEverything
  intro s hs
  have hwrite := writeTransaction_command (r := .softReset) hs (.inr rfl) rfl
  rw [State.processUpdated_haltBit] at hwrite
  exact hwrite

/-! ### Save (R264, R266) -/

/-- A save reads no protocol register and writes the store only (R266). -/
theorem State.save_withBus (s : State) (b : BusRegs) (sel : Byte) :
    ({ s with bus := b } : State).save sel = { s with bus := b, nv := (s.save sel).nv } := by
  unfold State.save
  dsimp only
  split <;> rfl

/-- The mask of all groups holds the six of R113. -/
theorem allGroups_getLsbD : ∀ k < 6, (0x3F : Byte).getLsbD k = true := by
  decide

/-- The store after a save that selects a group; a group's bit in the selector is its bit among the six of R113. -/
theorem State.save_nv_of_selected (s : State) {sel : Byte} (h : sel &&& 0x3F ≠ 0) :
    (s.save sel).nv =
      { mask := NvStore.groups s.nv ||| (sel &&& 0x3F)
        m1Control := if sel.getLsbD 0 then s.m1.control &&& 0x1F else s.nv.m1Control
        m2Control := if sel.getLsbD 1 then s.m2.control &&& 0x1F else s.nv.m2Control
        rampingRate := if sel.getLsbD 2 then s.tun.rampingRate else s.nv.rampingRate
        minPower := if sel.getLsbD 3 then s.tun.minPower else s.nv.minPower
        busAddress := if sel.getLsbD 4 then s.tun.busAddress else s.nv.busAddress
        kP := if sel.getLsbD 5 then s.tun.kP else s.nv.kP
        kI := if sel.getLsbD 5 then s.tun.kI else s.nv.kI
        kD := if sel.getLsbD 5 then s.tun.kD else s.nv.kD } := by
  have hbit : ∀ k < 6, (sel &&& 0x3F).getLsbD k = sel.getLsbD k := by
    intro k hk
    rw [BitVec.getLsbD_and, allGroups_getLsbD k hk, Bool.and_true]
  simp only [State.save, if_neg h, hbit 0 (by decide), hbit 1 (by decide), hbit 2 (by decide), hbit 3 (by decide),
    hbit 4 (by decide), hbit 5 (by decide)]

/-- Settles O23: the field is the selector, and the save at the end of the transaction uses it. -/
theorem settingsSaveWritesSelectedSlots : Obligations.SettingsSaveWritesSelectedSlots := by
  unfold Obligations.SettingsSaveWritesSelectedSlots
  intro s v hs
  refine ⟨(s.save v).nv, ?step, fun hnone => ?unselected, fun hsel => ?selected⟩
  case step =>
    have ht : s.writeReg (fromBE [v]) .settingsSave = some { s with bus := { s.bus with saveSelector := v } } := by
      rw [State.writeReg, asByte_fromBE]
    have hwrite := writeTransaction_payload (r := .settingsSave) hs rfl (List.cons_ne_nil v []) rfl ht
    rw [State.processUpdated_saveBit] at hwrite
    exact hwrite.trans (congrArg Host.Outcome.next (State.save_withBus s _ v))
  case unselected => rw [State.save_none hnone]
  case selected =>
    rw [State.save_nv_of_selected s hsel]
    exact ⟨rfl, rfl, rfl, rfl, rfl, rfl, rfl, rfl, rfl⟩

/-! ### Load (R267, R268) -/

/-- A load as one record: the two motors and the tunables. -/
theorem State.load_eq (s : State) :
    s.load = { s with m1 := s.load.m1, m2 := s.load.m2, tun := loadedTunables s.nv s.params } := rfl

/-- A load neither reads nor changes the protocol registers. -/
theorem State.load_ended (s : State) (a : Byte) : (s.ended a).load = s.load.ended a := rfl

/-- Settles O24: the address byte alone sets bit 13, whose work is the load. -/
theorem settingsLoadReplacesEveryTunable : Obligations.SettingsLoadReplacesEveryTunable := by
  unfold Obligations.SettingsLoadReplacesEveryTunable
  intro s hs
  have hwrite := writeTransaction_command (r := .settingsLoad) hs (.inl rfl) rfl
  rw [State.processUpdated_loadBit, State.load_ended, State.load_eq, ← State.motor_m1 s.load,
    ← State.motor_m2 s.load, State.load_motor, State.load_motor] at hwrite
  exact hwrite

/-! ### What recommitting and recomputing leave alone (R200, R320, R331) -/

/-- Committing the control byte in force changes nothing. -/
theorem MotorRegs.commitControl_of_asControl {m : MotorRegs} {v : Byte} (h : asControl v = m.control) :
    m.commitControl v = m := by
  have hmode : modeOf v = m.mode := by rw [← modeOf_asControl, h, MotorRegs.mode]
  rw [MotorRegs.commitControl_same hmode, h]

theorem MotorRegs.apply_apply (m : MotorRegs) : m.apply.apply = m.apply := by
  have hrecord : ∀ n : MotorRegs, n.apply = { n with outMode := n.apply.outMode, outDuty := n.apply.outDuty } := by
    intro n
    unfold MotorRegs.apply
    split_ifs <;> rfl
  have hduty : m.apply.apply.outDuty = m.apply.outDuty := by
    rw [MotorRegs.apply_outDuty, MotorRegs.apply_currentPower, MotorRegs.apply_outDuty]
  rw [hrecord m.apply, MotorRegs.apply_apply_outMode, hduty]

theorem MotorRegs.update_mode (m : MotorRegs) (f : Byte) : (m.update f).mode = m.mode := by
  rw [MotorRegs.mode, MotorRegs.update_control, MotorRegs.mode]

/-- `UPDATE` by mode (R320). -/
theorem MotorRegs.update_of_direct {m : MotorRegs} (f : Byte) (h : m.mode = .direct) :
    m.update f = (m.rescaled f).passThrough.apply := by
  have hmode : (m.rescaled f).mode = .direct := h
  simp only [MotorRegs.update, hmode]

theorem MotorRegs.update_of_ne_direct {m : MotorRegs} (f : Byte) (h : m.mode ≠ .direct) :
    m.update f = (m.rescaled f).apply := by
  have hmode : (m.rescaled f).mode = m.mode := rfl
  cases hm : m.mode with
  | direct => exact absurd hm h
  | ramp => simp only [MotorRegs.update, hmode, hm]
  | rate => simp only [MotorRegs.update, hmode, hm]

/-- Rescaling again with the same floor changes nothing. -/
theorem MotorRegs.rescaled_update (m : MotorRegs) (f : Byte) : (m.update f).rescaled f = m.update f := by
  have hscaled : rescale f (m.update f).setPower = (m.update f).scaledPower := by
    rw [MotorRegs.update_setPower, MotorRegs.update_scaledPower]
  rw [MotorRegs.rescaled, hscaled]

/-- Passing a request through that already drives the output changes nothing. -/
theorem MotorRegs.passThrough_of_passed {m : MotorRegs} (hpower : m.currentPower = m.scaledPower)
    (hpol : m.outPol = directionFlag m.control) : m.passThrough = m := by
  have hkeep : ∀ power pol, power = m.currentPower → pol = m.outPol →
      { m with currentPower := power, outPol := pol } = m := by
    rintro _ _ rfl rfl
    rfl
  exact hkeep _ _ hpower.symm hpol.symm

/-- `UPDATE` twice with one floor is `UPDATE` once. -/
theorem MotorRegs.update_update (m : MotorRegs) (f : Byte) : (m.update f).update f = m.update f := by
  by_cases h : m.mode = .direct
  · have hpower : (m.update f).currentPower = (m.update f).scaledPower := by
      rw [MotorRegs.update_currentPower, if_pos h, MotorRegs.update_scaledPower]
    have hpol : (m.update f).outPol = directionFlag (m.update f).control := by
      rw [MotorRegs.update_control, MotorRegs.update_of_direct f h, MotorRegs.apply_outPol,
        MotorRegs.passThrough_outPol, MotorRegs.rescaled_control]
    rw [MotorRegs.update_of_direct f ((m.update_mode f).trans h), MotorRegs.rescaled_update,
      MotorRegs.passThrough_of_passed hpower hpol, MotorRegs.update_of_direct f h, MotorRegs.apply_apply]
  · rw [MotorRegs.update_of_ne_direct f ((m.update_mode f).trans_ne h), MotorRegs.rescaled_update,
      MotorRegs.update_of_ne_direct f h, MotorRegs.apply_apply]

/-! ### Save, then load; load, then load (R269) -/

/-- The store after a save of all groups: every group marked, every slot the live register. -/
theorem State.save_all_nv (s : State) :
    (s.save 0x3F).nv =
      { mask := NvStore.groups s.nv ||| 0x3F
        m1Control := s.m1.control &&& 0x1F
        m2Control := s.m2.control &&& 0x1F
        rampingRate := s.tun.rampingRate
        minPower := s.tun.minPower
        busAddress := s.tun.busAddress
        kP := s.tun.kP
        kI := s.tun.kI
        kD := s.tun.kD } := by
  rw [State.save_nv_of_selected s (by decide), allGroups_getLsbD 0 (by decide), allGroups_getLsbD 1 (by decide),
    allGroups_getLsbD 2 (by decide), allGroups_getLsbD 3 (by decide), allGroups_getLsbD 4 (by decide),
    allGroups_getLsbD 5 (by decide)]
  rfl

/-- After a save of all groups every group is saved, whatever the store held. -/
theorem NvStore.groups_save_all (s : State) : NvStore.groups (s.save 0x3F).nv = 0x3F := by
  have hall : ∀ g : Byte, g &&& 0x3F = g →
      (g ||| 0x3F).getLsbD 7 = false ∧ (g ||| 0x3F) &&& 0x3F = 0x3F := by decide
  obtain ⟨hmarker, hsix⟩ := hall (NvStore.groups s.nv) (NvStore.groups_and s.nv)
  have hmask : (s.save 0x3F).nv.mask = NvStore.groups s.nv ||| 0x3F := by rw [State.save_all_nv]
  rw [NvStore.groups, hmask, hmarker, if_neg Bool.false_ne_true, hsix]

theorem loadedControl_save_all (s : State) (i : MotorId) :
    loadedControl (s.save 0x3F).nv s.params i = (s.motor i).control &&& 0x1F := by
  cases i with
  | m1 =>
    rw [loadedControl, NvStore.groups_save_all, State.save_all_nv, if_pos (by decide), BitVec.and_assoc]
    rfl
  | m2 =>
    rw [loadedControl, NvStore.groups_save_all, State.save_all_nv, if_pos (by decide), BitVec.and_assoc]
    rfl

/-- The saved bus address has no bit 7 to lose (R53 b). -/
theorem loadedTunables_save_all {s : State} (h : s.tun.busAddress.getLsbD 7 = false) :
    loadedTunables (s.save 0x3F).nv s.params = s.tun := by
  have haddr : ∀ v : Byte, v.getLsbD 7 = false → asBusAddress v = v := by decide
  have hslots : loadedTunables (s.save 0x3F).nv s.params =
      { s.tun with busAddress := asBusAddress s.tun.busAddress } := by
    rw [loadedTunables, NvStore.groups_save_all, State.save_all_nv]
    rfl
  rw [hslots, haddr _ h]

/-- The saved bits 4:0 joined with the live NEW_CURRENT are the whole of a control byte (R53 b). -/
theorem asControl_rejoined {c : Byte} (h : c.extractLsb' 6 2 = 0) : asControl (c &&& 0x1F ||| c &&& 0x20) = c := by
  revert c
  decide

/-- R269 (b) for one motor: the load recommits the byte in force, so that only `UPDATE` is left of it. -/
theorem State.motor_save_all_load {s : State} (h : s.Inv) (i : MotorId) :
    ((s.save 0x3F).load).motor i = (s.motor i).update s.tun.minPower := by
  obtain ⟨hreserved, -⟩ := h.motor i
  have hmotor : (s.save 0x3F).motor i = s.motor i := by
    cases i with
    | m1 => exact s.save_m1 0x3F
    | m2 => exact s.save_m2 0x3F
  rw [State.load_motor, hmotor, State.save_params, loadedControl_save_all, loadedTunables_save_all h.busAddress,
    MotorRegs.commitControl_of_asControl (asControl_rejoined hreserved)]

/-- Joining the NEW_CURRENT of the committed byte again gives the same committed byte. -/
theorem asControl_rejoin_committed (c d : Byte) :
    asControl (c ||| asControl (c ||| d &&& 0x20) &&& 0x20) = asControl (c ||| d &&& 0x20) := by
  have hbit : ∀ c d new six : Bool, ((c || ((c || d && new) && six) && new) && six) = ((c || d && new) && six) := by
    decide
  ext k hk
  simp only [asControl, BitVec.getElem_and, BitVec.getElem_or]
  exact hbit _ _ _ _

/-- R269 (c) for one motor: the second load finds the byte in force and the derived state in place. -/
theorem State.motor_load_load (s : State) (i : MotorId) : s.load.load.motor i = s.load.motor i := by
  have hcontrol : (s.load.motor i).control =
      asControl (loadedControl s.nv s.params i ||| (s.motor i).control &&& 0x20) := by
    rw [State.load_motor, MotorRegs.update_control, MotorRegs.commitControl_control]
  have hcommit : asControl (loadedControl s.nv s.params i ||| (s.load.motor i).control &&& 0x20) =
      (s.load.motor i).control := by
    rw [hcontrol, asControl_rejoin_committed]
  calc s.load.load.motor i
    _ = (s.load.motor i).update (loadedTunables s.nv s.params).minPower := by
      rw [State.load_motor s.load, State.load_nv, State.load_params, MotorRegs.commitControl_of_asControl hcommit]
    _ = s.load.motor i := by rw [State.load_motor, MotorRegs.update_update]

theorem State.load_load (s : State) : s.load.load = s.load := by
  have hm1 : s.load.load.m1 = s.load.m1 := s.motor_load_load .m1
  have hm2 : s.load.load.m2 = s.load.m2 := s.motor_load_load .m2
  rw [State.load_eq s.load, hm1, hm2, State.load_nv, State.load_params]
  rfl

/-- Settles O56: `UPDATE` leaves the control byte, the PID terms and the target rate alone. -/
theorem saveThenLoadKeepsTheSettings : Obligations.SaveThenLoadKeepsTheSettings := by
  unfold Obligations.SaveThenLoadKeepsTheSettings
  refine ⟨fun s h => ⟨?tunables, fun m => ?motor⟩, State.load_load⟩
  case tunables => rw [State.load_tun, State.save_params, loadedTunables_save_all h.busAddress]
  case motor =>
    rw [State.motor_save_all_load h m]
    exact ⟨MotorRegs.update_control _ _, MotorRegs.update_pidP _ _, MotorRegs.update_pidI _ _,
      MotorRegs.update_pidD _ _, MotorRegs.update_targetRate _ _⟩

end Sys2Proof.Machine
end

section
/-! The control loop (R290 to R320): the comparison that gives DIRECTION, the tick of a motor by mode, and `UPDATE`. -/

namespace Sys2Proof.Machine

/-! ### Comparison and absolute value (R148) -/

/-- The pattern put together from its three fields (R146). -/
theorem toNat_eq_fields (a : F32) :
    a.toNat = (if signOf a then 2 ^ 31 else 0) + expOf a * 2 ^ 23 + fracOf a := by
  have hs : signOf a = decide (2 ^ 31 ≤ a.toNat) := a.msb_eq_decide
  rw [hs, expOf, fracOf, BitVec.extractLsb'_toNat, BitVec.extractLsb'_toNat, Nat.shiftRight_eq_div_pow]
  simp only [decide_eq_true_eq, Nat.shiftRight_zero]
  split_ifs <;> omega

/-- The infinity of a sign is the one pattern with exponent 255, fraction 0 and that sign (R146). -/
theorem eq_infinity_iff {a : F32} {s : Bool} : a = infinity s ↔ isInf a = true ∧ signOf a = s := by
  constructor
  · rintro rfl
    cases s <;> decide
  · rintro ⟨hinf, rfl⟩
    obtain ⟨hexp, hfrac⟩ : expOf a = 255 ∧ fracOf a = 0 := by simpa [isInf] using hinf
    apply BitVec.eq_of_toNat_eq
    rw [toNat_eq_fields a, hexp, hfrac]
    cases signOf a <;> rfl

/-- Exponent 255 is a NaN or an infinity, any other a finite value (R146). -/
theorem isNaN_or_isInf_or_isFinite (a : F32) : isNaN a = true ∨ isInf a = true ∨ IsFinite a := by
  by_cases hexp : expOf a = 255
  · by_cases hfrac : fracOf a = 0 <;> simp [isNaN, isInf, hexp, hfrac]
  · exact .inr (.inr hexp)

theorem not_isFinite_of_isInf {a : F32} (h : isInf a = true) : ¬ IsFinite a := by
  simp_all [isInf]

theorem not_isFinite_infinity (s : Bool) : ¬ IsFinite (infinity s) :=
  not_isFinite_of_isInf (eq_infinity_iff.mp rfl).1

theorem flt_of_isNaN {a b : F32} (h : isNaN a = true ∨ isNaN b = true) : flt a b = false := by
  rw [flt, if_pos (by simpa using h)]

theorem flt_of_isInf_left {a b : F32} (ha : isInf a = true) (hb : isNaN b = false) :
    flt a b = true ↔ a = infinity true ∧ b ≠ infinity true := by
  cases hinf : isInf b <;> simp [flt, isNaN_of_isInf ha, hb, ha, hinf, eq_infinity_iff]

theorem flt_of_isInf_right {a b : F32} (ha : IsFinite a) (hb : isInf b = true) :
    flt a b = true ↔ b = infinity false := by
  simp [flt, isNaN_of_isInf hb, ha.not_special, hb, eq_infinity_iff]

theorem flt_of_isFinite {a b : F32} (ha : IsFinite a) (hb : IsFinite b) :
    flt a b = true ↔ valueOf a < valueOf b := by
  simp [flt, ha.not_special, hb.not_special]

/-- `flt` whole: false beside a NaN, the infinities outside the finite values, those by value (R148). -/
theorem flt_iff (a b : F32) : flt a b = true ↔
    isNaN a = false ∧ isNaN b = false ∧
      ((a = infinity true ∧ b ≠ infinity true) ∨ (b = infinity false ∧ a ≠ infinity false) ∨
        (IsFinite a ∧ IsFinite b ∧ valueOf a < valueOf b)) := by
  rcases isNaN_or_isInf_or_isFinite a with ha | ha | ha
  · simp [flt_of_isNaN (.inl ha), ha]
  · rcases isNaN_or_isInf_or_isFinite b with hb | hb | hb
    · simp [flt_of_isNaN (.inr hb), hb]
    · rw [flt_of_isInf_left ha (isNaN_of_isInf hb)]
      cases hs : signOf a <;>
        simp [eq_infinity_iff, ha, hb, hs, isNaN_of_isInf, not_isFinite_of_isInf ha]
    · rw [flt_of_isInf_left ha hb.not_special.1]
      simp [eq_infinity_iff, ha, isNaN_of_isInf ha, hb.not_special, not_isFinite_of_isInf ha]
  · rcases isNaN_or_isInf_or_isFinite b with hb | hb | hb
    · simp [flt_of_isNaN (.inr hb), hb]
    · rw [flt_of_isInf_right ha hb]
      simp [eq_infinity_iff, hb, isNaN_of_isInf hb, ha.not_special, not_isFinite_of_isInf hb]
    · rw [flt_of_isFinite ha hb]
      simp [eq_infinity_iff, ha, hb, ha.not_special, hb.not_special]

/-- A sum is not both positive and negative. -/
theorem flt_asymm {a b : F32} (h : flt a b = true) : flt b a = false := by
  rw [Bool.eq_false_iff, Ne, flt_iff]
  rintro ⟨-, -, hba⟩
  obtain ⟨-, -, hab⟩ := (flt_iff a b).mp h
  rcases hab with ⟨rfl, hb⟩ | ⟨rfl, ha⟩ | ⟨ha, hb, hlt⟩
  · rcases hba with ⟨hb', -⟩ | ⟨hs, -⟩ | ⟨-, ha, -⟩
    · exact hb hb'
    · exact absurd hs (by decide)
    · exact not_isFinite_infinity _ ha
  · rcases hba with ⟨hs, -⟩ | ⟨ha', -⟩ | ⟨hb, -, -⟩
    · exact absurd hs (by decide)
    · exact ha ha'
    · exact not_isFinite_infinity _ hb
  · rcases hba with ⟨rfl, -⟩ | ⟨rfl, -⟩ | ⟨-, -, hgt⟩
    · exact not_isFinite_infinity _ hb
    · exact not_isFinite_infinity _ ha
    · omega

/-- `fabs` clears the sign and keeps the other bits (R148). -/
theorem fabs_getLsbD (a : F32) :
    (fabs a).getLsbD 31 = false ∧ ∀ k < 31, (fabs a).getLsbD k = a.getLsbD k := by
  have hmask : ∀ k < 31, (0x7FFFFFFF : F32).getLsbD k = true := by decide
  unfold fabs
  refine ⟨by simp, fun k hk => ?_⟩
  rw [BitVec.getLsbD_and, hmask k hk, Bool.and_true]

/-! ### DIRECTION (R303) -/

theorem directionFlag_setDirection (c : Byte) (d : Bool) : directionFlag (setDirection c d) = d := by
  revert c d; decide

/-- A positive sum means forward. -/
theorem directionFlag_pidDirection_of_pos {sum : F32} (c : Byte) (h : flt (zero false) sum = true) :
    directionFlag (pidDirection sum c) = false := by
  cases hc : directionFlag c <;> simp [pidDirection, h, flt_asymm h, hc, directionFlag_setDirection]

/-- A negative sum means reverse. -/
theorem directionFlag_pidDirection_of_neg {sum : F32} (c : Byte) (h : flt sum (zero false) = true) :
    directionFlag (pidDirection sum c) = true := by
  cases hc : directionFlag c <;> simp [pidDirection, h, flt_asymm h, hc, directionFlag_setDirection]

/-- A sum without a sign, a zero or a NaN, keeps the control byte. -/
theorem pidDirection_of_neither {sum : F32} (c : Byte) (hpos : flt (zero false) sum = false)
    (hneg : flt sum (zero false) = false) : pidDirection sum c = c := by
  simp [pidDirection, hpos, hneg]

/-! ### The tick by mode (R292) -/

theorem MotorRegs.tick_of_rate {m : MotorRegs} (t : Tunables) (p : Params) (h : m.mode = .rate) :
    m.tick t p = ((m.measured p).pidStep t m.currentRate).apply := by
  rw [MotorRegs.tick_eq, MotorRegs.powerStep_rate _ _ ((m.measured_mode p).trans h)]

theorem MotorRegs.tick_of_ramp {m : MotorRegs} (t : Tunables) (p : Params) (h : m.mode = .ramp) :
    m.tick t p = ((m.measured p).rampStep t).apply := by
  rw [MotorRegs.tick_eq, MotorRegs.powerStep_ramp _ _ ((m.measured_mode p).trans h)]

theorem MotorRegs.tick_of_direct {m : MotorRegs} (t : Tunables) (p : Params) (h : m.mode = .direct) :
    m.tick t p = ((m.measured p).directStep t).apply := by
  rw [MotorRegs.tick_eq, MotorRegs.powerStep_direct _ _ ((m.measured_mode p).trans h)]

@[simp] theorem MotorRegs.measured_setPower (m : MotorRegs) (p : Params) : (m.measured p).setPower = m.setPower := by
  rw [m.measured_eq]

@[simp] theorem MotorRegs.measured_currentPower (m : MotorRegs) (p : Params) :
    (m.measured p).currentPower = m.currentPower := by
  rw [m.measured_eq]

@[simp] theorem MotorRegs.measured_targetRate (m : MotorRegs) (p : Params) :
    (m.measured p).targetRate = m.targetRate := by
  rw [m.measured_eq]

@[simp] theorem MotorRegs.measured_outPol (m : MotorRegs) (p : Params) : (m.measured p).outPol = m.outPol := by
  rw [m.measured_eq]

/-- No tick switches the mode: only DIRECTION is ever written (R303). -/
theorem MotorRegs.tick_mode (m : MotorRegs) (t : Tunables) (p : Params) : (m.tick t p).mode = m.mode := by
  obtain ⟨-, hmode⟩ := (m.measured p).powerStep_control_other_bits t m.currentRate
  rw [MotorRegs.measured_mode] at hmode
  rw [← hmode, MotorRegs.tick_eq, MotorRegs.mode, MotorRegs.apply_control, MotorRegs.mode]

/-! ### The measurement (R295, R296) -/

/-- The power path and the output stage leave the measured registers alone. -/
theorem MotorRegs.tick_measures (m : MotorRegs) (t : Tunables) (p : Params) :
    (m.tick t p).currentRate = (m.measured p).currentRate ∧ (m.tick t p).oldEnc = (m.measured p).oldEnc := by
  simp [MotorRegs.tick_eq]

theorem MotorRegs.rateStep_currentRate (m : MotorRegs) (p : Params) :
    (m.rateStep p).currentRate = rateOf p (m.encoderValue - m.oldEnc).toInt := by
  rw [MotorRegs.rateStep]

/-- Settles O31: the measurement by the ENCODER flag; the subtraction of words is the wrapped difference. -/
theorem tickMeasuresTheRate : Obligations.TickMeasuresTheRate := by
  unfold Obligations.TickMeasuresTheRate
  intro m t p
  obtain ⟨hrate, hold⟩ := m.tick_measures t p
  rw [hrate, hold]
  refine ⟨fun hon => ?_, fun hoff => ?_, fun _ => rfl⟩
  · rw [MotorRegs.measured_on p hon, MotorRegs.rateStep_currentRate, BitVec.toInt_sub, MotorRegs.rateStep_oldEnc]
    exact ⟨rfl, rfl⟩
  · rw [MotorRegs.measured_off p hoff]
    exact ⟨rfl, rfl⟩

/-! ### RATE mode (R300 to R304) -/

/-- The terms of a RATE-mode tick (R300). -/
theorem MotorRegs.tick_terms_of_rate {m : MotorRegs} (t : Tunables) (p : Params) (h : m.mode = .rate) :
    (m.tick t p).pidP = fmul t.kP (i2f m.targetRate.toInt) ∧
    (m.tick t p).pidI =
      fadd m.pidI (fmul t.kI (i2f (m.targetRate.toInt - (m.tick t p).currentRate.toInt))) ∧
    (m.tick t p).pidD = fmul t.kD (i2f (m.currentRate.toInt - (m.tick t p).currentRate.toInt)) := by
  rw [(m.tick_measures t p).1, MotorRegs.tick_of_rate t p h]
  simp [MotorRegs.pidStep, MotorRegs.pidTerms]

/-- Settles O32. -/
theorem rateTickComputesThePidTerms : Obligations.RateTickComputesThePidTerms := by
  unfold Obligations.RateTickComputesThePidTerms
  exact fun _ t p h => MotorRegs.tick_terms_of_rate t p h

/-- Power, control byte and polarity of a RATE-mode tick, from the sum of the terms that it leaves (R302, R303). -/
theorem MotorRegs.tick_drive_of_rate {m : MotorRegs} (t : Tunables) (p : Params) (h : m.mode = .rate) :
    (m.tick t p).currentPower = pidPower (m.tick t p).pidSum t.minPower ∧
    (m.tick t p).control = pidDirection (m.tick t p).pidSum m.control ∧
    (m.tick t p).outPol = directionFlag (m.tick t p).control := by
  rw [MotorRegs.tick_of_rate t p h]
  simp [MotorRegs.pidStep, MotorRegs.pidSum]

/-- Settles O33: the power is `pidPower` of the sum, a maximum with the floor. -/
theorem rateTickPowerHasTheFloor : Obligations.RateTickPowerHasTheFloor := by
  unfold Obligations.RateTickPowerHasTheFloor
  intro m t p h
  obtain ⟨hpower, -, -⟩ := MotorRegs.tick_drive_of_rate t p h
  have hmax := (congrArg BitVec.toNat hpower).trans (pidPower_toNat _ _)
  exact ⟨hmax, hmax ▸ le_max_right _ _⟩

/-- Settles O34: the comparison whole, then DIRECTION by the three cases of the sum. -/
theorem rateTickDirectionFollowsTheSum : Obligations.RateTickDirectionFollowsTheSum := by
  unfold Obligations.RateTickDirectionFollowsTheSum
  refine ⟨flt_iff, fabs_getLsbD, fun m t p h => ?_⟩
  obtain ⟨-, hcontrol, hpol⟩ := MotorRegs.tick_drive_of_rate t p h
  refine ⟨fun hpos => ?_, fun hneg => ?_, fun hpos hneg => ?_, ?_, hpol⟩
  · rw [hcontrol]
    exact directionFlag_pidDirection_of_pos m.control hpos
  · rw [hcontrol]
    exact directionFlag_pidDirection_of_neg m.control hneg
  · rw [hcontrol]
    exact pidDirection_of_neither m.control hpos hneg
  · rw [hcontrol]
    exact (pidDirection_other_bits _ m.control).1

/-- Without the encoder a RATE-mode tick keeps what the next product is made of. -/
theorem MotorRegs.tick_of_rate_off {m : MotorRegs} (t : Tunables) (p : Params) (h : m.mode = .rate)
    (hoff : encoderFlag m.control = false) :
    encoderFlag (m.tick t p).control = false ∧ (m.tick t p).currentRate = m.currentRate := by
  obtain ⟨-, hcontrol, -⟩ := MotorRegs.tick_drive_of_rate t p h
  obtain ⟨-, -, hflag⟩ := pidDirection_other_bits (m.tick t p).pidSum m.control
  exact ⟨by rw [hcontrol, hflag, hoff], by rw [(m.tick_measures t p).1, MotorRegs.measured_off p hoff]⟩

/-- Settles O35, by induction on the number of ticks: each adds the same product. -/
theorem integralAccumulatesOncePerTick : Obligations.IntegralAccumulatesOncePerTick := by
  unfold Obligations.IntegralAccumulatesOncePerTick
  intro m t p h hoff n
  induction n generalizing m with
  | zero => rfl
  | succ n ih =>
    obtain ⟨hoff', hrate⟩ := MotorRegs.tick_of_rate_off t p h hoff
    obtain ⟨-, hI, -⟩ := MotorRegs.tick_terms_of_rate t p h
    rw [MotorRegs.ticks, ih _ ((m.tick_mode t p).trans h) hoff', MotorRegs.tick_targetRate, hI, hrate,
      Function.iterate_succ_apply]

/-! ### RAMP mode (R307 to R313) -/

/-- The reversal: on a direction mismatch above the floor the power goes down to it and the polarity stays (R309). -/
theorem MotorRegs.rampStep_turning {m : MotorRegs} {t : Tunables} (hpol : m.outPol ≠ directionFlag m.control)
    (hpower : t.minPower < m.currentPower) :
    (m.rampStep t).currentPower = rampToward m.currentPower t.minPower t.rampingRate ∧
      (m.rampStep t).outPol = m.outPol := by
  simp [MotorRegs.rampStep, hpol, hpower]

/-- Otherwise the polarity is DIRECTION, flipped if it was not, and the power ramps to its target (R308, R309). -/
theorem MotorRegs.rampStep_straight {m : MotorRegs} {t : Tunables}
    (h : m.outPol = directionFlag m.control ∨ ¬ t.minPower < m.currentPower) :
    (m.rampStep t).currentPower = rampToward m.currentPower (rescale t.minPower m.setPower) t.rampingRate ∧
      (m.rampStep t).outPol = directionFlag m.control := by
  by_cases hpol : m.outPol = directionFlag m.control
  · simp [MotorRegs.rampStep, MotorRegs.normalRamp, hpol]
  · have hpower : ¬ t.minPower < m.currentPower := h.resolve_left hpol
    simp only [MotorRegs.rampStep, MotorRegs.rescaled_outPol, MotorRegs.rescaled_control,
      MotorRegs.rescaled_currentPower, if_neg hpol, if_neg hpower, MotorRegs.normalRamp,
      MotorRegs.rescaled_scaledPower, and_self]

/-- Settles O36, by the two branches of the ramp step. -/
theorem rampTickStepsOrTurns : Obligations.RampTickStepsOrTurns := by
  unfold Obligations.RampTickStepsOrTurns
  intro m t p h
  rw [MotorRegs.tick_of_ramp t p h]
  simp only [MotorRegs.apply_scaledPower, MotorRegs.apply_currentPower, MotorRegs.apply_outPol]
  refine ⟨by simp, fun hpol hpower => ?_, fun hcase => ?_⟩
  · obtain ⟨hc, ho⟩ := MotorRegs.rampStep_turning (m := m.measured p) (t := t) (by simpa using hpol)
      (by simpa [BitVec.lt_def] using hpower)
    rw [hc, ho, rampToward_toNat, MotorRegs.measured_currentPower, MotorRegs.measured_outPol,
      if_neg (Nat.lt_asymm hpower), if_pos hpower]
    exact ⟨rfl, rfl⟩
  · obtain ⟨hc, ho⟩ := MotorRegs.rampStep_straight (m := m.measured p) (t := t)
      (by simpa [BitVec.lt_def] using hcase)
    rw [hc, ho, rampToward_toNat, MotorRegs.measured_currentPower, MotorRegs.measured_setPower,
      MotorRegs.measured_control]
    exact ⟨rfl, rfl⟩

/-- Settles O37: in both branches of the ramp the power ends between where it was and one rate from there. -/
theorem rampTickMovesAtMostTheRate : Obligations.RampTickMovesAtMostTheRate := by
  unfold Obligations.RampTickMovesAtMostTheRate
  intro m t p h
  obtain ⟨-, hturn, hstraight⟩ := rampTickStepsOrTurns m t p h
  by_cases hcase : m.outPol = directionFlag m.control ∨ m.currentPower.toNat ≤ t.minPower.toNat
  · obtain ⟨-, hpower⟩ := hstraight hcase
    split_ifs at hpower <;> omega
  · obtain ⟨hpol, habove⟩ := not_or.mp hcase
    obtain ⟨hpower, -⟩ := hturn hpol (Nat.lt_of_not_le habove)
    omega

/-- Settles O38, by induction on the number of ticks: the first moves the power one rate, or what is left of the way,
and keeps the target and the matching polarity. -/
theorem rampMovesByTheRateTowardItsTarget : Obligations.RampMovesByTheRateTowardItsTarget := by
  unfold Obligations.RampMovesByTheRateTowardItsTarget
  intro m t p h hpol c g n
  induction n generalizing m with
  | zero =>
    rw [MotorRegs.ticks]
    omega
  | succ n ih =>
    obtain ⟨-, -, hstraight⟩ := rampTickStepsOrTurns m t p h
    obtain ⟨hpol', hpower⟩ := hstraight (.inl hpol)
    obtain ⟨hcontrol, -⟩ := MotorRegs.tick_of_ne_rate (m := m) t p (by simp [h])
    have hrest := ih (m.tick t p) ((m.tick_mode t p).trans h) (by rw [hpol', hcontrol])
    rw [MotorRegs.tick_setPower] at hrest
    rw [MotorRegs.ticks, Nat.succ_mul]
    split_ifs at hpower <;> omega

/-! ### DIRECT mode (R312) -/

/-- Settles O39. -/
theorem directTickPassesTheRequestThrough : Obligations.DirectTickPassesTheRequestThrough := by
  unfold Obligations.DirectTickPassesTheRequestThrough
  intro m t p h
  rw [MotorRegs.tick_of_direct t p h]
  simp

/-! ### `UPDATE` (R320) -/

/-- `APPLY` writes the two output registers and nothing else (R331). -/
theorem MotorRegs.apply_eq (m : MotorRegs) :
    m.apply = { m with outMode := m.apply.outMode, outDuty := m.apply.outDuty } := by
  unfold MotorRegs.apply
  split_ifs <;> rfl

/-- Settles O41: by the mode, `APPLY` on the rescaled request, passed through in DIRECT mode only. -/
theorem updateIsTheDerivedStatePath : Obligations.UpdateIsTheDerivedStatePath := by
  unfold Obligations.UpdateIsTheDerivedStatePath
  intro m floor
  by_cases h : m.mode = .direct
  · simp only [h, if_true]
    rw [MotorRegs.update_of_direct floor h]
    exact MotorRegs.apply_eq _
  · simp only [h, if_false]
    rw [MotorRegs.update_of_ne_direct floor h]
    exact MotorRegs.apply_eq _

/-! ### The event `TICK` (R290) -/

theorem exec_tick (s : State) : exec .tick s = execTick s := rfl

/-- Settles O30: motor 1, then motor 2, whose tick reads nothing that the first one wrote. -/
theorem tickRunsBothMotors : Obligations.TickRunsBothMotors := by
  unfold Obligations.TickRunsBothMotors
  refine fun s => ⟨fun hrun => ?_, fun hhalt => ?_⟩
  · rw [exec_tick, execTick_running hrun, State.tickMotor, State.tickMotor]
    rfl
  · rw [exec_tick, execTick, whenRunning_halted _ hhalt]

end Sys2Proof.Machine
end

section
/-! The output stage (R331, R333): what `APPLY` writes, and the request its braking policy reads. -/

namespace Sys2Proof.Machine

/-- The request the braking policy reads, by RATE mode and the rest (R333). -/
theorem MotorRegs.requested_eq (m : MotorRegs) :
    m.requested = if m.mode = Mode.rate then m.targetRate != 0 else m.setPower != 0 := by
  unfold MotorRegs.requested
  cases m.mode <;> rfl

/-- Settles O42: `APPLY` writes the two output registers only, the duty from `current_power` and the mode by the
braking policy. -/
theorem applyDrivesTheOutput : Obligations.ApplyDrivesTheOutput := by
  unfold Obligations.ApplyDrivesTheOutput
  intro m requested
  have hrequested : m.requested = requested := m.requested_eq
  rw [m.apply_eq, m.apply_outDuty, m.apply_outMode, hrequested]

end Sys2Proof.Machine
end

section
/-! The quadrature encoder accumulator (R345): what one edge does to the counter of its motor. -/

namespace Sys2Proof.Machine

/-- The counter steps modulo 2^32: down at companion level 1, up at level 0. -/
theorem encoderStep_eq_ofInt (c : Word) (b : Bool) :
    (if b then c - 1 else c + 1) = BitVec.ofInt 32 (c.toInt + (if b then -1 else 1)) := by
  rw [BitVec.ofInt_add, BitVec.ofInt_toInt]
  cases b
  · rfl
  · exact BitVec.sub_eq_add_neg c 1

theorem MotorRegs.countEdge_of_on {m : MotorRegs} (b : Bool) (h : encoderFlag m.control = true) :
    m.countEdge b =
      { m with encoderValue := BitVec.ofInt 32 (m.encoderValue.toInt + (if b then -1 else 1)) } := by
  rw [MotorRegs.countEdge, if_pos h, encoderStep_eq_ofInt]

theorem MotorRegs.countEdge_of_off {m : MotorRegs} (b : Bool) (h : ¬ encoderFlag m.control = true) :
    m.countEdge b = m :=
  if_neg h

/-- A motor written back as it was changes nothing. -/
theorem State.setMotor_motor (s : State) (i : MotorId) : s.setMotor i (s.motor i) = s := by
  cases i <;> rfl

theorem exec_enc (m : MotorId) (b : Bool) (s : State) : exec (.enc m b) s = execEnc m b s := rfl

/-- Settles O50, by the ENCODER bit of the motor. -/
theorem edgeCountsByTheCompanionLevel : Obligations.EdgeCountsByTheCompanionLevel := by
  unfold Obligations.EdgeCountsByTheCompanionLevel
  refine ⟨fun s m b hrun => ?_, fun s m b hhalt => ?_⟩
  · rw [exec_enc, execEnc, whenRunning_running _ hrun, State.mapMotor]
    by_cases hon : encoderFlag (s.motor m).control = true
    · rw [if_pos hon, MotorRegs.countEdge_of_on b hon]
    · rw [if_neg hon, MotorRegs.countEdge_of_off b hon, State.setMotor_motor]
  · rw [exec_enc, execEnc, whenRunning_halted _ hhalt]

end Sys2Proof.Machine
end

section
/-! The current sampler (R355): the conversion goes to the channel selected before the toggle. -/

namespace Sys2Proof.Machine

theorem exec_adc (v : Nat) (s : State) : exec (.adc v) s = execAdc v s := rfl

theorem MotorId.other_eq_ite (i : MotorId) : i.other = if i = .m1 then .m2 else .m1 := by
  cases i <;> rfl

/-- Settles O51, by the run state; the toggle reads the channel the result has gone to. -/
theorem conversionGoesToTheSelectedMotor : Obligations.ConversionGoesToTheSelectedMotor := by
  unfold Obligations.ConversionGoesToTheSelectedMotor
  refine ⟨fun s v hrun => ?_, fun s v hhalt => ?_⟩
  · rw [exec_adc, execAdc, whenRunning_running _ hrun, State.sample, MotorId.other_eq_ite]
    rfl
  · rw [exec_adc, execAdc, whenRunning_halted _ hhalt]

end Sys2Proof.Machine
end

section
/-! The two reset events (R410, R411), and what they leave where the store was never saved (R412). -/

namespace Sys2Proof.Machine

theorem exec_por (s : State) : exec .por s = .next s.resetCore := rfl

theorem exec_wdt (s : State) : exec .wdt s = .next s.resetCore := rfl

/-- Settles O54: both handlers are `RESET()`, a load from the cleared registers. -/
theorem porAndWdtAreTheSameFullReset : Obligations.PorAndWdtAreTheSameFullReset := by
  unfold Obligations.PorAndWdtAreTheSameFullReset
  exact fun s => ⟨exec_por s, exec_wdt s⟩

/-! ### A load from a store that was never saved (R263, R268) -/

theorem NvStore.groups_of_neverSaved {nv : NvStore} (h : nv.mask.getLsbD 7 = true) : NvStore.groups nv = 0 :=
  if_pos h

theorem loadedControl_of_neverSaved {nv : NvStore} (p : Params) (h : nv.mask.getLsbD 7 = true) (i : MotorId) :
    loadedControl nv p i = p.defControl := by
  cases i <;> simp [loadedControl, NvStore.groups_of_neverSaved h]

/-- Such a load gives the tunables that a reset has just put in their registers. -/
theorem loadedTunables_of_neverSaved {s : State} (h : s.nv.mask.getLsbD 7 = true) :
    loadedTunables s.nv s.params = s.clearRegs.tun := by
  simp [loadedTunables, NvStore.groups_of_neverSaved h, State.clearRegs]

/-- No request is no power, whatever the floor (R142). -/
theorem rescale_zero (f : Byte) : rescale f 0 = 0 :=
  if_pos rfl

/-- Recomputing a cleared motor changes nothing, whatever the floor: it asks for no power and does not brake
(R142, R331). -/
theorem MotorRegs.update_cleared (f : Byte) : MotorRegs.cleared.update f = MotorRegs.cleared := by
  have hrescaled : MotorRegs.cleared.rescaled f = MotorRegs.cleared := by
    have hscaled : rescale f MotorRegs.cleared.setPower = MotorRegs.cleared.scaledPower := rescale_zero f
    rw [MotorRegs.rescaled, hscaled]
  rw [MotorRegs.update_of_direct f rfl, hrescaled]
  rfl

theorem MotorRegs.commitControl_cleared : MotorRegs.cleared.commitControl 0 = MotorRegs.cleared :=
  MotorRegs.commitControl_of_asControl rfl

theorem State.clearRegs_motor (s : State) (i : MotorId) : s.clearRegs.motor i = MotorRegs.cleared := by
  cases i <;> rfl

/-- With a default control byte of zero, the load of a reset keeps the cleared motors. -/
theorem State.resetCore_motor_of_neverSaved {s : State} (h : s.nv.mask.getLsbD 7 = true)
    (hcontrol : s.params.defControl = 0) (i : MotorId) : s.resetCore.motor i = MotorRegs.cleared := by
  have hbyte : loadedControl s.nv s.params i ||| (MotorRegs.cleared.control &&& 0x20) = 0 := by
    rw [loadedControl_of_neverSaved s.params h, hcontrol]
    rfl
  rw [State.resetCore, State.load_motor, State.clearRegs_motor, State.clearRegs_nv, State.clearRegs_params, hbyte,
    MotorRegs.commitControl_cleared, MotorRegs.update_cleared]

/-- So the load of such a reset changes nothing at all. -/
theorem State.resetCore_of_neverSaved {s : State} (h : s.nv.mask.getLsbD 7 = true)
    (hcontrol : s.params.defControl = 0) : s.resetCore = s.clearRegs := by
  have hm1 : s.clearRegs.load.m1 = MotorRegs.cleared := State.resetCore_motor_of_neverSaved h hcontrol .m1
  have hm2 : s.clearRegs.load.m2 = MotorRegs.cleared := State.resetCore_motor_of_neverSaved h hcontrol .m2
  rw [State.resetCore, State.load_eq, hm1, hm2, State.clearRegs_nv, State.clearRegs_params,
    loadedTunables_of_neverSaved h]
  rfl

/-- Settles O55: the cleared registers of `State.resetCore_of_neverSaved`, at the default parameters. -/
theorem resetWithABlankStoreIsTheResetState : Obligations.ResetWithABlankStoreIsTheResetState := by
  unfold Obligations.ResetWithABlankStoreIsTheResetState
  intro s hparams hblank motor after
  have hcontrol : s.params.defControl = 0 := by rw [hparams]; rfl
  have hcleared : s.clearRegs = after := by
    simp only [State.clearRegs, after, hparams]
    rfl
  rw [exec_por, exec_wdt, State.resetCore_of_neverSaved hblank hcontrol, hcleared]
  exact ⟨rfl, rfl, rfl⟩

end Sys2Proof.Machine
end

section
/-! The halted core (R395): every operation but the two resets is the identity, except that a read answers no data. -/

namespace Sys2Proof.Machine

/-- The same state, or the same but for a read that answered no data. -/
def State.SameButNoData (s t : State) : Prop :=
  t = s ∨ t = { s with readBlock := none }

theorem State.SameButNoData.run {s t : State} (h : s.SameButNoData t) : t.run = s.run := by
  obtain rfl | rfl := h
  · rfl
  · rfl

theorem State.SameButNoData.trans {s t u : State} (hst : s.SameButNoData t) (htu : t.SameButNoData u) :
    s.SameButNoData u := by
  obtain rfl | rfl := hst
  · exact htu
  · obtain rfl | rfl := htu
    · exact .inr rfl
    · exact .inr rfl

theorem execReq_halted {s : State} (h : s.run = .halted) : execReq s = .next { s with readBlock := none } := by
  simp only [execReq, h]

/-- A read selects nothing on a halted core, and answers no data (R395). -/
theorem readTransaction_halted {s : State} (addr : Byte) (h : s.run = .halted) :
    readTransaction addr s = .next { s with readBlock := none } := by
  rw [readTransaction, writeTransaction_halted _ h, andThen_next, execReq_halted h]

/-- An event whose handler runs on a running core only is dropped. -/
theorem exec_dropped {i : Instr} {s : State} (f : State → Result) (hf : exec i s = whenRunning f s)
    (h : s.run = .halted) : ∃ t, exec i s = .next t ∧ s.SameButNoData t :=
  ⟨s, hf.trans (whenRunning_halted f h), .inl rfl⟩

/-- One operation on a halted core, by the class of its row. -/
theorem exec_halted {i : Instr} {s : State} (h : s.run = .halted) (hreset : NotReset i) :
    ∃ t, exec i s = .next t ∧ s.SameButNoData t := by
  obtain ⟨hpor, hwdt⟩ := hreset
  cases hc : i.opClass with
  | write =>
    obtain ⟨bytes, hrow⟩ := exec_of_write hc
    exact ⟨s, (hrow s).trans (writeTransaction_halted _ h), .inl rfl⟩
  | read => exact ⟨_, (exec_of_read hc s).trans (readTransaction_halted _ h), .inr rfl⟩
  | event =>
    cases i with
    | por => exact absurd rfl hpor
    | wdt => exact absurd rfl hwdt
    | tick => exact exec_dropped (fun u => .next ((u.tickMotor .m1).tickMotor .m2)) rfl h
    | enc m b => exact exec_dropped (fun u => .next (u.mapMotor m fun r => r.countEdge b)) rfl h
    | adc v => exact exec_dropped (fun u => .next (u.sample v)) rfl h
    | startW => exact exec_dropped (fun u => .next u.startWrite) rfl h
    | rx b => exact exec_dropped (fun u => u.receive b) rfl h
    | endW => exact exec_dropped (fun u => .next u.endWrite) rfl h
    | req => exact ⟨_, execReq_halted h, .inr rfl⟩
    | _ => cases hc

/-- Settles O53, by induction on the operations: each leaves a halted core that is the same but for no data. -/
theorem haltedCoreIgnoresEverythingButResets : Obligations.HaltedCoreIgnoresEverythingButResets := by
  unfold Obligations.HaltedCoreIgnoresEverythingButResets
  intro l
  induction l with
  | nil => exact fun s _ _ => ⟨s, rfl, .inl rfl⟩
  | cons i rest ih =>
    intro s hrun hreset
    obtain ⟨hi, hrest⟩ := List.forall_mem_cons.mp hreset
    obtain ⟨t, ht, hst⟩ := exec_halted hrun hi
    obtain ⟨u, hu, htu⟩ := ih t (hst.run.trans hrun) hrest
    exact ⟨u, by rw [runAll_cons, ht, andThen_next, hu], hst.trans htu⟩

end Sys2Proof.Machine
end

section
/-! Simultaneous events (R367): serialising is Mathlib's insertion sort by rank, and it keeps each rank's own order. -/

namespace Sys2Proof.Machine

/-- The order by rank: the first operation is handled no later than the second (R367). -/
abbrev RankLe : Instr → Instr → Prop :=
  rank ⁻¹'o (· ≤ ·)

theorem insertPending_eq_orderedInsert (i : Instr) (l : List Instr) :
    insertPending i l = l.orderedInsert RankLe i := by
  induction l with
  | nil => rfl
  | cons j rest ih => rw [insertPending, List.orderedInsert_cons, ih]; rfl

theorem serialise_eq_insertionSort (l : List Instr) : serialise l = l.insertionSort RankLe := by
  induction l with
  | nil => rfl
  | cons i rest ih => rw [serialise, List.insertionSort_cons, ih, insertPending_eq_orderedInsert]

theorem serialise_perm (l : List Instr) : (serialise l).Perm l := by
  rw [serialise_eq_insertionSort]
  exact l.perm_insertionSort RankLe

theorem serialise_pairwise (l : List Instr) : (serialise l).Pairwise RankLe := by
  rw [serialise_eq_insertionSort]
  exact l.pairwise_insertionSort RankLe

/-- Among the requests of one rank the new one comes first: it only passes requests of other ranks. -/
theorem filter_insertPending (k : Nat) (i : Instr) (l : List Instr) :
    (insertPending i l).filter (fun j => rank j == k) = (i :: l).filter (fun j => rank j == k) := by
  induction l with
  | nil => rfl
  | cons j rest ih =>
    rw [insertPending]
    split
    · rfl
    · rename_i hlt
      have hne : ¬ (rank i = k ∧ rank j = k) := by omega
      by_cases hj : rank j = k
      · have hi : rank i ≠ k := fun hi => hne ⟨hi, hj⟩
        simp [ih, hj, hi]
      · simp [List.filter_cons, ih, hj]

theorem filter_serialise (k : Nat) (l : List Instr) :
    (serialise l).filter (fun j => rank j == k) = l.filter (fun j => rank j == k) := by
  induction l with
  | nil => rfl
  | cons i rest ih => rw [serialise, filter_insertPending, List.filter_cons, ih, List.filter_cons]

/-- Settles O60: the ranks are numbers, and serialising is a stable sort by them. -/
theorem simultaneousEventsAreOrderedByPriority : Obligations.SimultaneousEventsAreOrderedByPriority := by
  unfold Obligations.SimultaneousEventsAreOrderedByPriority
  refine ⟨fun _ _ _ _ => ?ranks, fun l => ⟨serialise_perm l, serialise_pairwise l, fun k => filter_serialise k l⟩⟩
  case ranks => simp [rank]

end Sys2Proof.Machine
end
